-- ==== Sys2Proof/Word.lean ====
section
/-! DEFINITION. The word types of the engine: bytes on the channel, 16-bit unit addresses and offsets, 32-bit
values, and the 4-bit command opcode. Widths are those of spec/10_state.md, section 1. -/

namespace Sys2Proof

/-- A byte of a frame, a buffer or an address string (spec/00_scope.md section 5: "A byte is 8 bits"). -/
abbrev Byte := BitVec 8

/-- A unit address or a parsed offset, 16 bits (R15, R16). -/
abbrev UnitAddr := BitVec 16

/-- A value transferred by a command: `CMD_WDATA`, `RDATA` (R13, R25), and the control registers of `TIME_W` = 32
bits (R26, R27). -/
abbrev Word := BitVec 32

/-- A command opcode, 4 bits (R11, R62). -/
abbrev Opcode := BitVec 4

end Sys2Proof
end

