-- ==== Sys2Proof/Config.lean ====
section
/-! DEFINITION. The implementation parameters of R4 (spec/00_scope.md section 4). A parameter that the spec marks
OPEN is an opaque constant: nothing in Lean can evaluate it, so a claim holds for every value of it. The three straps
that change behaviour also stand in the register `CONFIG` (R28); the machine reads them there, and the values below
are only what `CONFIG` shows after reset. A decision D<n> of spec/92_eei_decisions.md that is no value of this file is a named
assumption (R5): notes/assumptions/25.md says where each one stands. -/

namespace Sys2Proof.Config

/-- `ADDR_LEN_MAX` = 8 characters (R4, D3). -/
def addrLenMax : Nat := 8

/-- `OFFSET_W` = 16 bits (R4, D6). -/
def offsetW : Nat := 16

/-- The largest offset an address string may name: 2^`OFFSET_W` − 1 (R93). -/
def offsetMax : Nat := 2 ^ offsetW - 1

/-- `T_BIT_EN`, false for this hardware (R4, R105, D9). -/
def tBitEn : Bool := false

/-- `DATA_LSB_FIRST`, true for this hardware (R4, R49, D13). -/
def dataLsbFirst : Bool := true

/-- The value widths: exactly 1, 2 and 4 bytes (R4, C5, D16). -/
inductive ValueWidth where
  | one | two | four
  deriving DecidableEq, Repr

/-- How many bytes a value of the width has (R17). -/
def ValueWidth.bytes : ValueWidth → Nat
  | .one => 1
  | .two => 2
  | .four => 4

/-- The width of so many bytes; none where there is none (U16). -/
def ValueWidth.ofBytes : Nat → Option ValueWidth
  | 1 => some .one
  | 2 => some .two
  | 4 => some .four
  | _ => none

/-- `Y_BIT_BASE` is 0x0400 (and not 0x0500). OPEN in R4: no value is fixed here (safe: notes/assumptions/5.md). -/
opaque yBase0400 : Bool

/-- `TIMEOUT_RESET`, the reset value of `TIMEOUT`. OPEN in R4: no value is fixed here (safe: notes/assumptions/6.md). -/
opaque timeoutReset : Word

/-- `POLL_RESET` = 10 time units (R4, R27, D19). -/
def pollReset : Word := 10#32

end Sys2Proof.Config
end

