-- ==== Sys2Proof/Machine/Codec.lean ====
section
/-! DEFINITION. The Ascii Codec (spec/41_ascii_codec.md) and the Frame Builder (spec/42_frame_builder.md): pure
functions on byte sequences. A range `bytes[start .. start+len)` of the spec is passed as the list of its bytes, so a
range that runs beyond the sequence (U17) cannot be written. -/

namespace Sys2Proof.Machine

/-- The start marker STX (R66). -/
def stx : Byte := 0x02#8
/-- The end marker ETX (R66). -/
def etx : Byte := 0x03#8
/-- FC_READ (R66). -/
def fcRead : Byte := 0x30#8
/-- FC_WRITE (R66). -/
def fcWrite : Byte := 0x31#8
/-- FC_SET (R66). -/
def fcSet : Byte := 0x37#8
/-- FC_RESET (R66). -/
def fcReset : Byte := 0x38#8
/-- The acknowledgement byte that means success (R66, R71). -/
def ackByte : Byte := 0x06#8

/-- `hexchar(d)`: the uppercase hexadecimal digit of `d` (spec/00_scope.md section 5). -/
def hexChar (d : BitVec 4) : Byte :=
  if d.toNat < 10 then BitVec.ofNat 8 (0x30 + d.toNat) else BitVec.ofNat 8 (0x41 + (d.toNat - 10))

/-- `hexval(c)`, none where `IsHexChar(c)` does not hold: lowercase letters are outside the set (R114,
D35). -/
def hexVal (c : Byte) : Option (BitVec 4) :=
  if 0x30 ≤ c.toNat ∧ c.toNat ≤ 0x39 then some (BitVec.ofNat 4 (c.toNat - 0x30))
  else if 0x41 ≤ c.toNat ∧ c.toNat ≤ 0x46 then some (BitVec.ofNat 4 (c.toNat - 0x41 + 10))
  else none

/-- The big-endian string of exactly `digitCount` digits (R111): digit `k` is the digit of weight
16^(digitCount−1−k). -/
def hexDigits (value digitCount : Nat) : List Byte :=
  (List.range digitCount).map fun k => hexChar (BitVec.ofNat 4 (value / 16 ^ (digitCount - 1 - k)))

/-- Reverse the order of 2-character groups, not of characters (R111, R112). -/
def swapPairs : List Byte → List Byte
  | a :: b :: rest => swapPairs rest ++ [a, b]
  | rest => rest

/-- The rendering of R111 inside its domain. -/
def asciiHex (value digitCount : Nat) (littleEndian : Bool) : List Byte :=
  if littleEndian then swapPairs (hexDigits value digitCount) else hexDigits value digitCount

/-- `NumberToAsciiHex` (R111). Outside its domain (an odd digit count, a value that needs more digits) it refuses and
does not truncate (R111, U16); the frame builder stays inside the domain. -/
def numberToAsciiHex (value digitCount : Nat) (littleEndian : Bool) : Option (List Byte) :=
  if digitCount % 2 = 0 ∧ value < 16 ^ digitCount then some (asciiHex value digitCount littleEndian) else none

/-- The sum of a range modulo 256: an 8-bit wrap-around accumulation (R110). -/
def byteSum (range : List Byte) : Byte := range.foldl (· + ·) 0#8

/-- `ChecksumAscii` of a range: the two digits of its byte sum, high digit first (R110). -/
def checksumAscii (range : List Byte) : List Byte :=
  [hexChar ((byteSum range).extractLsb' 4 4), hexChar ((byteSum range).extractLsb' 0 4)]

/-- `AsciiHexToBytes` of a range (R113): none stands for `InvalidFrame`, on an odd length and on a character that is no
uppercase hex digit. -/
def asciiHexToBytes : List Byte → Option (List Byte)
  | [] => some []
  | [_] => none
  | hi :: lo :: rest =>
    match hexVal hi, hexVal lo, asciiHexToBytes rest with
    | some h, some l, some out => some (BitVec.ofNat 8 (h.toNat * 16 + l.toNat) :: out)
    | _, _, _ => none

/-- The low bytes of a value, as many as its width has, in wire order (R49, R115). A width other than 1, 2, 4 cannot be
written (U16). -/
def wireBytes (lsbFirst : Bool) (value : Word) (width : Config.ValueWidth) : List Byte :=
  let low := (List.range width.bytes).map fun i => value.extractLsb' (8 * i) 8
  if lsbFirst then low else low.reverse

/-- The data characters of a list of bytes: two digits each, high digit first (R46, R75). -/
def hexOfBytes (bytes : List Byte) : List Byte := bytes.flatMap fun b => asciiHex b.toNat 2 false

/-- `ValueToAsciiHex` (R115). Outside its domain, for a width other than 1, 2, 4, it refuses (U16, C5). -/
def valueToAsciiHex (lsbFirst : Bool) (value : Word) (n : Nat) : Option (List Byte) :=
  (Config.ValueWidth.ofBytes n).map fun width => hexOfBytes (wireBytes lsbFirst value width)

/-- The number whose bytes are given least significant first: Σ b[i] × 256^i (R116). -/
def bytesToNat : List Byte → Nat
  | [] => 0
  | b :: rest => b.toNat + 256 * bytesToNat rest

/-- `BytesToValue` (R116), zero-extended to 32 bits (R157). -/
def bytesToValue (lsbFirst : Bool) (bytes : List Byte) : Word :=
  BitVec.ofNat 32 (bytesToNat (if lsbFirst then bytes else bytes.reverse))

/-- The common construction of a request frame (R120). -/
def frameOf (body : List Byte) : List Byte :=
  [stx] ++ body ++ [etx] ++ checksumAscii (body ++ [etx])

/-- The ADDR field of READ and WRITE, big-endian (R47, R73). -/
def addrField (u : UnitAddr) : List Byte := asciiHex u.toNat 4 false

/-- The ADDR field of SET and RESET, byte-pair reversed (R48, R73, C1). -/
def bitAddrField (u : UnitAddr) : List Byte := asciiHex u.toNat 4 true

/-- The LEN field: two digits of the byte count (R74). -/
def lenField (n : Nat) : List Byte := asciiHex n 2 false

/-- `BuildRead` (R121). -/
def buildRead (u : UnitAddr) (n : Nat) : List Byte :=
  frameOf ([fcRead] ++ addrField u ++ lenField n)

/-- `BuildWrite` (R122), from the data bytes in wire order. -/
def buildWrite (u : UnitAddr) (n : Nat) (bytes : List Byte) : List Byte :=
  frameOf ([fcWrite] ++ addrField u ++ lenField n ++ hexOfBytes bytes)

/-- `BuildBit` (R123). -/
def buildBit (u : UnitAddr) (set : Bool) : List Byte :=
  frameOf ([if set then fcSet else fcReset] ++ bitAddrField u)

/-- The elements `start` to `start + len − 1` of a sequence. -/
def slice (bytes : List Byte) (start len : Nat) : List Byte := (bytes.drop start).take len

/-- `InterpretRead` (R152): the four checks of R153 to R156 and the value of R157; none stands for `InvalidFrame`
(D17). -/
def interpretRead (lsbFirst : Bool) (n : Nat) (rx : List Byte) : Option Word :=
  if rx[0]? ≠ some stx then none
  else if rx[1 + 2 * n]? ≠ some etx then none
  else if slice rx (2 + 2 * n) 2 ≠ checksumAscii (slice rx 1 (2 * n + 1)) then none
  else (asciiHexToBytes (slice rx 1 (2 * n))).map (bytesToValue lsbFirst)

end Sys2Proof.Machine
end

