-- ==== Sys2Proof/Syntax.lean ====
section
/-! DEFINITION. The instructions of the engine, one constructor per row of spec/opcode_table.json, at both levels of
R60: the host commands and reserved opcodes (R62, R63), the wire requests (R68 to R70) and the wire responses (R71,
R72). Also the forms in which the engine finds an instruction (`Code`) and the command record a requester submits. -/

namespace Sys2Proof

/-- A device area (R14): the six of R4, no other. -/
inductive Area where
  | D | M | X | Y | S | T
  deriving DecidableEq, Repr

/-- The command record of R61 without its length field, which is the length of `addr`. `req` is the opaque requester
tag: a natural number, since its width `REQ_W` is free (R4). -/
structure Command where
  op    : Opcode
  req   : Nat
  addr  : List Byte
  wdata : Word
  deriving DecidableEq, Repr

/-- An instruction. The operands of a host command are its address string and, for a write, its value (R160, R170);
the requester tag is no operand but stays in `CMD_REQ`. The operands of a request frame are the unit address and, for
a WRITE, the data bytes in wire order; the checksum is not an operand, it is computed (R76). The operands of a response
are its characters as they were received: the meaning checks them (R153 to R156). -/
inductive Instr where
  /-- RD_BIT `addr` (R161). -/
  | rdBit (addr : List Byte)
  /-- RD_BYTE `addr` (R162). -/
  | rdByte (addr : List Byte)
  /-- RD_U16 `addr` (R163). -/
  | rdU16 (addr : List Byte)
  /-- RD_U32 `addr` (R164). -/
  | rdU32 (addr : List Byte)
  /-- RD_F32 `addr` (R165). -/
  | rdF32 (addr : List Byte)
  /-- WR_BIT `addr, bit`; the bit is `wdata[0]` (R171). -/
  | wrBit (addr : List Byte) (wdata : Word)
  /-- WR_BYTE `addr, value` (R172). -/
  | wrByte (addr : List Byte) (wdata : Word)
  /-- WR_U16 `addr, value` (R173). -/
  | wrU16 (addr : List Byte) (wdata : Word)
  /-- WR_U32 `addr, value` (R174). -/
  | wrU32 (addr : List Byte) (wdata : Word)
  /-- WR_F32 `addr, value` (R175). -/
  | wrF32 (addr : List Byte) (wdata : Word)
  /-- The reserved opcode 0b0101 (R63). -/
  | reserved0101
  /-- The reserved opcode 0b0110 (R63). -/
  | reserved0110
  /-- The reserved opcode 0b0111 (R63). -/
  | reserved0111
  /-- The reserved opcode 0b1101 (R63). -/
  | reserved1101
  /-- The reserved opcode 0b1110 (R63). -/
  | reserved1110
  /-- The reserved opcode 0b1111 (R63). -/
  | reserved1111
  /-- READ with LEN 1 (R68, R121). -/
  | read1 (uaddr : UnitAddr)
  /-- READ with LEN 2 (R68, R121). -/
  | read2 (uaddr : UnitAddr)
  /-- READ with LEN 4 (R68, R121). -/
  | read4 (uaddr : UnitAddr)
  /-- WRITE with LEN 1 (R69, R122). -/
  | write1 (uaddr : UnitAddr) (d0 : Byte)
  /-- WRITE with LEN 2 (R69, R122). -/
  | write2 (uaddr : UnitAddr) (d0 d1 : Byte)
  /-- WRITE with LEN 4 (R69, R122). -/
  | write4 (uaddr : UnitAddr) (d0 d1 d2 d3 : Byte)
  /-- SET (R70, R124). -/
  | setBit (uaddr : UnitAddr)
  /-- RESET (R70, R125). -/
  | resetBit (uaddr : UnitAddr)
  /-- The one-byte ACK response (R71, R151). -/
  | ack (k : Byte)
  /-- RDRESP with LEN 1: 2 data characters, 2 checksum characters (R72, R152). -/
  | rdresp1 (c0 c1 s0 s1 : Byte)
  /-- RDRESP with LEN 2: 4 data characters, 2 checksum characters (R72, R152). -/
  | rdresp2 (c0 c1 c2 c3 s0 s1 : Byte)
  /-- RDRESP with LEN 4: 8 data characters, 2 checksum characters (R72, R152). -/
  | rdresp4 (c0 c1 c2 c3 c4 c5 c6 c7 s0 s1 : Byte)
  deriving DecidableEq, Repr

/-- Where and how the engine finds its next instruction: the latched command ("the only code the engine runs is the
latched command", R57), the request frame in `TXBUF`, or the response in `RXBUF`. The level is known from the place;
no byte is looked at to find it (R138, R150). -/
inductive Code where
  /-- A command: opcode, address string, value (R61). -/
  | command (op : Opcode) (addr : List Byte) (wdata : Word)
  /-- The bytes of a request frame, in wire order. -/
  | request (bytes : List Byte)
  /-- The bytes of a response, in wire order. -/
  | response (bytes : List Byte)
  deriving DecidableEq, Repr

end Sys2Proof
end

