-- ==== Sys2Proof/Decode.lean ====
section
/-! DEFINITION. Decoding, total on every `Code` and rejecting by name, and the encoder. The encodings are those of
spec/30_encoding.md: the opcode map of R62 and R63, the request frames of R68 to R70 with the fields of R73 to R76, the
responses of R71 and R72. -/

namespace Sys2Proof

open Sys2Proof.Machine

/-- Why a byte sequence is no instruction. -/
inductive Reject where
  /-- The first byte is not STX (R67, R72). -/
  | badStart
  /-- The byte before the checksum is not ETX (R67, R72). -/
  | badEnd
  /-- The two last characters are not the checksum (R76). -/
  | badChecksum
  /-- The function code is none of READ, WRITE, SET, RESET (R78). -/
  | badFunctionCode
  /-- The length is that of no frame, or disagrees with the LEN field (R77, R78). -/
  | badLength
  /-- A character of an ADDR or DATA field is no uppercase hexadecimal digit (R114). -/
  | badDigit
  deriving DecidableEq, Repr

/-- The opcode map of R62 and R63: total on the sixteen opcodes. A read ignores the value (R13). -/
def decodeCommand (op : Opcode) (addr : List Byte) (wdata : Word) : Instr :=
  match op.toNat with
  | 0 => .rdBit addr
  | 1 => .rdByte addr
  | 2 => .rdU16 addr
  | 3 => .rdU32 addr
  | 4 => .rdF32 addr
  | 5 => .reserved0101
  | 6 => .reserved0110
  | 7 => .reserved0111
  | 8 => .wrBit addr wdata
  | 9 => .wrByte addr wdata
  | 10 => .wrU16 addr wdata
  | 11 => .wrU32 addr wdata
  | 12 => .wrF32 addr wdata
  | 13 => .reserved1101
  | 14 => .reserved1110
  | _ => .reserved1111

/-- Take a frame apart: start marker, body, end marker, checksum of body and end marker (R67, R76). -/
def unframe (bytes : List Byte) : Except Reject (List Byte) :=
  match bytes with
  | [] => .error .badStart
  | first :: rest =>
    if first ≠ stx then .error .badStart
    else
      let body := rest.take (rest.length - 3)
      let tail := rest.drop (rest.length - 3)
      if tail.head? ≠ some etx then .error .badEnd
      else if tail.drop 1 ≠ checksumAscii (body ++ [etx]) then .error .badChecksum
      else .ok body

/-- The unit address of a four-character ADDR field (R73): `swapped` for the byte-pair reversed field of SET and
RESET. -/
def decodeAddrField (swapped : Bool) (field : List Byte) : Option UnitAddr :=
  match asciiHexToBytes field with
  | some [b0, b1] => some (if swapped then b1 ++ b0 else b0 ++ b1)
  | _ => none

/-- A READ frame's fields after ADDR: the LEN field, one of `"01"`, `"02"`, `"04"` (R68, R74). -/
def decodeReadTail (u : UnitAddr) (rest : List Byte) : Except Reject Instr :=
  if rest = lenField 1 then .ok (.read1 u)
  else if rest = lenField 2 then .ok (.read2 u)
  else if rest = lenField 4 then .ok (.read4 u)
  else .error .badLength

/-- A WRITE frame's fields after ADDR: LEN and DATA, which must agree (R69, R77). -/
def decodeWriteTail (u : UnitAddr) (rest : List Byte) : Except Reject Instr :=
  match asciiHexToBytes (rest.drop 2) with
  | none => .error .badDigit
  | some [d0] => if rest.take 2 = lenField 1 then .ok (.write1 u d0) else .error .badLength
  | some [d0, d1] => if rest.take 2 = lenField 2 then .ok (.write2 u d0 d1) else .error .badLength
  | some [d0, d1, d2, d3] =>
    if rest.take 2 = lenField 4 then .ok (.write4 u d0 d1 d2 d3) else .error .badLength
  | some _ => .error .badLength

/-- The body of a request frame: function code, ADDR field, further fields (R68 to R70). -/
def decodeBody : List Byte → Except Reject Instr
  | fc :: a0 :: a1 :: a2 :: a3 :: rest =>
    if fc = fcRead then
      match decodeAddrField false [a0, a1, a2, a3] with
      | none => .error .badDigit
      | some u => decodeReadTail u rest
    else if fc = fcWrite then
      match decodeAddrField false [a0, a1, a2, a3] with
      | none => .error .badDigit
      | some u => decodeWriteTail u rest
    else if fc = fcSet ∨ fc = fcReset then
      match decodeAddrField true [a0, a1, a2, a3] with
      | none => .error .badDigit
      | some u =>
        if rest ≠ [] then .error .badLength
        else if fc = fcSet then .ok (.setBit u) else .ok (.resetBit u)
    else .error .badFunctionCode
  | _ => .error .badLength

/-- A request frame (R67 to R70). -/
def decodeRequest (bytes : List Byte) : Except Reject Instr :=
  match unframe bytes with
  | .error e => .error e
  | .ok body => decodeBody body

/-- A response (R71, R72). The engine gives the decoder exactly the bytes it waited for, so the length tells the shape;
the two fixed bytes of a RDRESP are checked here, its characters and its checksum by its meaning. -/
def decodeResponse : List Byte → Except Reject Instr
  | [k] => .ok (.ack k)
  | [a, c0, c1, e, s0, s1] =>
    if a ≠ stx then .error .badStart else if e ≠ etx then .error .badEnd
    else .ok (.rdresp1 c0 c1 s0 s1)
  | [a, c0, c1, c2, c3, e, s0, s1] =>
    if a ≠ stx then .error .badStart else if e ≠ etx then .error .badEnd
    else .ok (.rdresp2 c0 c1 c2 c3 s0 s1)
  | [a, c0, c1, c2, c3, c4, c5, c6, c7, e, s0, s1] =>
    if a ≠ stx then .error .badStart else if e ≠ etx then .error .badEnd
    else .ok (.rdresp4 c0 c1 c2 c3 c4 c5 c6 c7 s0 s1)
  | _ => .error .badLength

/-- The decoder. -/
def decode : Code → Except Reject Instr
  | .command op addr wdata => .ok (decodeCommand op addr wdata)
  | .request bytes => decodeRequest bytes
  | .response bytes => decodeResponse bytes

/-- The encoder, from the same tables. A read's ignored value is encoded as zero. -/
def encode : Instr → Code
  | .rdBit addr => .command 0b0000#4 addr 0
  | .rdByte addr => .command 0b0001#4 addr 0
  | .rdU16 addr => .command 0b0010#4 addr 0
  | .rdU32 addr => .command 0b0011#4 addr 0
  | .rdF32 addr => .command 0b0100#4 addr 0
  | .wrBit addr wdata => .command 0b1000#4 addr wdata
  | .wrByte addr wdata => .command 0b1001#4 addr wdata
  | .wrU16 addr wdata => .command 0b1010#4 addr wdata
  | .wrU32 addr wdata => .command 0b1011#4 addr wdata
  | .wrF32 addr wdata => .command 0b1100#4 addr wdata
  | .reserved0101 => .command 0b0101#4 [] 0
  | .reserved0110 => .command 0b0110#4 [] 0
  | .reserved0111 => .command 0b0111#4 [] 0
  | .reserved1101 => .command 0b1101#4 [] 0
  | .reserved1110 => .command 0b1110#4 [] 0
  | .reserved1111 => .command 0b1111#4 [] 0
  | .read1 u => .request (buildRead u 1)
  | .read2 u => .request (buildRead u 2)
  | .read4 u => .request (buildRead u 4)
  | .write1 u d0 => .request (buildWrite u 1 [d0])
  | .write2 u d0 d1 => .request (buildWrite u 2 [d0, d1])
  | .write4 u d0 d1 d2 d3 => .request (buildWrite u 4 [d0, d1, d2, d3])
  | .setBit u => .request (buildBit u true)
  | .resetBit u => .request (buildBit u false)
  | .ack k => .response [k]
  | .rdresp1 c0 c1 s0 s1 => .response [stx, c0, c1, etx, s0, s1]
  | .rdresp2 c0 c1 c2 c3 s0 s1 => .response [stx, c0, c1, c2, c3, etx, s0, s1]
  | .rdresp4 c0 c1 c2 c3 c4 c5 c6 c7 s0 s1 =>
    .response [stx, c0, c1, c2, c3, c4, c5, c6, c7, etx, s0, s1]

/-- The `n` bytes of a word of the opcode table, the first byte in the least significant bits. -/
def bytesOfWord : Nat → Nat → List Byte
  | 0, _ => []
  | n + 1, w => BitVec.ofNat 8 w :: bytesOfWord n (w / 256)

/-- Where the engine would find the table's word `w` of `nbits` bits. A word of one byte below 16 is a host opcode, with
an empty address string and the value 0 above it; any other one-byte word is an ACK response (DESIGN CHOICE, unsafe:
notes/assumptions/9.md); the longer widths are those of the wire rows, each of one level only. -/
def codeOfTableWord (nbits w : Nat) : Option Code :=
  if nbits ≤ 8 then
    if w < 16 then some (.command (BitVec.ofNat 4 w) [] 0)
    else if w < 256 then some (.response (bytesOfWord 1 w)) else none
  else if nbits = 72 ∨ nbits = 88 ∨ nbits = 104 ∨ nbits = 120 ∨ nbits = 152 then
    some (.request (bytesOfWord (nbits / 8) w))
  else if nbits = 48 ∨ nbits = 64 ∨ nbits = 96 then
    some (.response (bytesOfWord (nbits / 8) w))
  else none

/-- The instruction the decoder reads from a word numbered as spec/opcode_table.json numbers it. -/
def decodeTableWord (nbits w : Nat) : Option Instr :=
  match codeOfTableWord nbits w with
  | none => none
  | some code =>
    match decode code with
    | .ok i => some i
    | .error _ => none

end Sys2Proof
end

