-- ==== Sys2Proof/Machine/State.lean ====
section
/-! DEFINITION. The state of the system as plain data: every register of spec/10_state.md (R10 to R28), the state those
rules imply, and the environment of R29 and R6 (channel, clock, requesters) with the moves it will make. Also the two
closed types of reasons a step can stop with, and the machine right after reset (R31, R210). -/

namespace Sys2Proof.Machine

/-- The status of a command (R180): `OK` or one of four faults. The codes 5 to 7 are never produced. -/
inductive Err where
  | ok | invalidAddress | unsupportedOperation | invalidFrame | timeout
  deriving DecidableEq, Repr

/-- The transaction state `TSTATE` (R21). -/
inductive TState where
  | idle | sent | awaitingLength | complete | timedOut
  deriving DecidableEq, Repr

/-- The fields of the register `STATUS` (R24); its eight bits are `statusBits` of Machine/Flags.lean. -/
structure Status where
  busy  : Bool
  done  : Bool
  ackOk : Bool
  err   : Err
  deriving DecidableEq, Repr

/-- The straps as the register `CONFIG` shows them (R28); its eight bits are `configBits` of Machine/Flags.lean. -/
structure Straps where
  /-- `Y_BIT_BASE` is 0x0400; otherwise it is 0x0500. -/
  yBase0400    : Bool
  tBitEn       : Bool
  dataLsbFirst : Bool
  deriving DecidableEq, Repr

/-- A completion record (R24, R143). -/
structure Completion where
  req   : Nat
  err   : Err
  ackOk : Bool
  rdata : Word
  deriving DecidableEq, Repr

/-- The registers a requester can read (R30, R195). -/
inductive HostReg where
  | status | rdata | config | timeout | pollInterval
  deriving DecidableEq, Repr

/-- One move of the system (R6): a step of the engine, or a step of the clock, the controller, a requester, the
channel or the reset input. -/
inductive Move where
  /-- The engine takes its next step. -/
  | engine
  /-- The clock advances by `d` time units; it is monotonic by construction (R192). -/
  | tick (d : Nat)
  /-- The controller's bytes arrive in `RXQ` (R29, R198). -/
  | arrive (bytes : List Byte)
  /-- A requester submits a command. `place` is its place among the waiting commands: the grant order is open (R144).
  A requester with a command of its own waiting or in flight makes no such move (R201, R216 (g)). -/
  | submit (place : Nat) (c : Command)
  /-- A requester writes `TIMEOUT` (R26). -/
  | writeTimeout (v : Word)
  /-- A requester writes `POLL_INTERVAL` (R27). -/
  | writePollInterval (v : Word)
  /-- A requester reads a register (R30, R195). -/
  | readReg (r : HostReg)
  /-- The channel will break its contract at the next read: at most `k` bytes come back (R141). -/
  | shortRead (k : Nat)
  /-- Reset (R210, R211). -/
  | reset
  deriving DecidableEq, Repr

/-- The state of the system. -/
structure State where
  /-- `CMD_OP` (R11). -/
  cmdOp : Opcode
  /-- `CMD_REQ`, an opaque tag of any width (R11). -/
  cmdReq : Nat
  /-- `CMD_ADDR[0..7]` (R12). -/
  cmdAddr : List Byte
  /-- `CMD_ADDR_LEN` (R12). -/
  cmdAddrLen : BitVec 4
  /-- `CMD_WDATA` (R13). -/
  cmdWdata : Word
  /-- `AREA` (R14). -/
  area : Area
  /-- `OFFSET` (R15). -/
  offset : UnitAddr
  /-- `UADDR` (R16). -/
  uaddr : UnitAddr
  /-- `LEN` (R17). -/
  len : BitVec 8
  /-- `BITSEL` (R18). -/
  bitsel : BitVec 3
  /-- `EXPECT_N` (R19). -/
  expectN : BitVec 10
  /-- `TXBUF[0..18]` (R20). -/
  txBuf : List Byte
  /-- `TX_LEN` (R20). -/
  txLen : BitVec 5
  /-- `RXBUF[0..11]` (R20). -/
  rxBuf : List Byte
  /-- `TSTATE` (R21). -/
  tstate : TState
  /-- `DEADLINE`, a natural number (R22, R132). Without wrap-around: DEDUCED, unsafe: notes/assumptions/7.md. -/
  deadline : Nat
  /-- `T_POLL`, a natural number (R22, R136). -/
  tPoll : Nat
  /-- `LOCK` (R23). -/
  lock : Bool
  /-- `STATUS` (R24). -/
  status : Status
  /-- `RDATA` (R25). -/
  rdata : Word
  /-- `TIMEOUT` (R26). -/
  timeout : Word
  /-- `POLL_INTERVAL` (R27). -/
  pollInterval : Word
  /-- `CONFIG` (R28). -/
  config : Straps
  /-- The model's own: `TXBUF` holds the request of the command in flight and it is not yet written to the channel
  (between the two moments of R127). DESIGN CHOICE, safe: notes/assumptions/12.md. -/
  frameReady : Bool
  /-- The model's own: the poll wait in progress and the value of `POLL_INTERVAL` read at its start (R136). DEDUCED, safe:
  notes/assumptions/11.md. -/
  pollHold : Option Word
  /-- The model's own: how many bytes the channel's read returned (R141). DESIGN CHOICE, safe: notes/assumptions/13.md. -/
  rxGot : Nat
  /-- `RXQ`, the channel's receive queue (R29). -/
  rxq : List Byte
  /-- `TXLOG`, every byte the engine has written (R29). -/
  txlog : List Byte
  /-- The model's own: the next channel read returns at most this many bytes (R141). DESIGN CHOICE, safe:
  notes/assumptions/13.md. -/
  chReadLimit : Option Nat
  /-- The injected clock `Now()`, a natural number (R192). -/
  clock : Nat
  /-- The commands the requesters hold, in the order in which they will be granted (R32, R144). -/
  waiting : List Command
  /-- The completion records emitted so far (R24, R228). -/
  records : List Completion
  /-- The model's own: the values the requesters' register reads returned (R195). DESIGN CHOICE, safe:
  notes/assumptions/18.md. -/
  readLog : List (HostReg × Word)
  /-- The model's own: the moves the system makes next; when it is empty the engine moves. DESIGN CHOICE, safe:
  notes/assumptions/2.md. -/
  schedule : List Move
  deriving DecidableEq, Repr

/-- Faults of a step. A fault of the spec (R180) is none of these: it is a status with which a command completes and
the machine goes on. -/
inductive Fault where
  /-- `TXBUF` is to be sent and holds no request frame. Raised by `step` alone, in states that no run from reset
  reaches (`frameReady` is set only beside a frame). Safe: the model stops where the engine would send what is there. -/
  | requestBufferCorrupt
  deriving DecidableEq, Repr

/-- Refusals of a step. -/
inductive Refusal where
  /-- An instruction without a meaning. Raised by `exec` alone; no arm of it raises it. Safe. -/
  | notModelled (mnemonic : String)
  /-- A requester would submit an address string longer than `ADDR_LEN_MAX`: "there is no register to hold it" (R12),
  so this is no behaviour of the hardware. Raised by `step` on such a `Move.submit` alone. Safe. -/
  | commandNotSubmittable
  /-- A requester would submit a command while an earlier one of its own waits or is in flight: it "does nothing else
  until it receives the completion" (R201), which R216 (g) assumes, so this is no run of the system. Raised by `step` on
  such a `Move.submit` alone. DEDUCED, safe: notes/assumptions/26.md. -/
  | requesterBlocked
  deriving DecidableEq, Repr

/-- The machine right after reset (R31, R210): the registers that R31 gives a value hold it, `TIMEOUT` and `Y_BIT_BASE`
being OPEN parameters (R4); every register it calls unspecified holds zero, `AREA` holds D (DESIGN CHOICE, unsafe:
notes/assumptions/3.md); the environment starts with an empty channel, clock 0 and nothing waiting (DESIGN CHOICE,
unsafe: notes/assumptions/4.md). -/
def State.reset : State where
  cmdOp := 0#4
  cmdReq := 0
  cmdAddr := List.replicate Config.addrLenMax 0#8
  cmdAddrLen := 0#4
  cmdWdata := 0#32
  area := .D
  offset := 0#16
  uaddr := 0#16
  len := 0#8
  bitsel := 0#3
  expectN := 0#10
  txBuf := List.replicate 19 0#8
  txLen := 0#5
  rxBuf := List.replicate 12 0#8
  tstate := .idle
  deadline := 0
  tPoll := 0
  lock := false
  status := { busy := false, done := false, ackOk := false, err := .ok }
  rdata := 0#32
  timeout := Config.timeoutReset
  pollInterval := Config.pollReset
  config := { yBase0400 := Config.yBase0400, tBitEn := Config.tBitEn, dataLsbFirst := Config.dataLsbFirst }
  frameReady := false
  pollHold := none
  rxGot := 0
  rxq := []
  txlog := []
  chReadLimit := none
  clock := 0
  waiting := []
  records := []
  readLog := []
  schedule := []

end Sys2Proof.Machine
end

