-- ==== Sys2Proof/Machine/Flags.lean ====
section
/-! DEFINITION. The flags of the engine: the fields of `STATUS` as its eight bits (R24), the eight bits of `CONFIG`
(R28), what acceptance and completion make of `STATUS` (R142, R186, R187), and the acknowledgement flag (R151). -/

namespace Sys2Proof.Machine

/-- The code of a status in the field `ERR` (R24, R180). -/
def errCode : Err → BitVec 3
  | .ok => 0#3
  | .invalidAddress => 1#3
  | .unsupportedOperation => 2#3
  | .invalidFrame => 3#3
  | .timeout => 4#3

/-- The eight bits of `STATUS` (R24): reserved 7:6, `ERR` 5:3, `ACK_OK` 2, `DONE` 1, `BUSY` 0. -/
def statusBits (st : Status) : BitVec 8 :=
  0#2 ++ errCode st.err ++ BitVec.ofBool st.ackOk ++ BitVec.ofBool st.done ++ BitVec.ofBool st.busy

/-- The eight bits of `CONFIG` (R28): reserved 7:3, `DATA_LSB_FIRST` 2, `T_BIT_EN` 1, `Y_BASE_0400` 0. -/
def configBits (c : Straps) : BitVec 8 :=
  0#5 ++ BitVec.ofBool c.dataLsbFirst ++ BitVec.ofBool c.tBitEn ++ BitVec.ofBool c.yBase0400

/-- `STATUS` after acceptance: `BUSY` set, `DONE` cleared, the other fields kept (R142, R190). -/
def Status.accepted (st : Status) : Status := { st with busy := true, done := false }

/-- `STATUS` after a completion (R186, R187). -/
def Status.completed (err : Err) (ackOk : Bool) : Status :=
  { busy := false, done := true, ackOk := ackOk, err := err }

/-- `ACK_OK` of an acknowledgement byte: it was 0x06 (R71, R151). -/
def ackFlag (k : Byte) : Bool := k == ackByte

end Sys2Proof.Machine
end

