-- ==== Sys2Proof/Machine/Operands.lean ====
section
/-! DEFINITION. The operand forms of the host commands: the Address Resolver of spec/40_address_resolver.md
(`ParseAddress`, `Resolve`). Both are pure functions of the address string, the operation mode and the straps (R108). -/

namespace Sys2Proof.Machine

/-- The area an area letter selects; no other byte selects one (R91, D4). -/
def areaOf (c : Byte) : Option Area :=
  if c = 0x44#8 then some .D
  else if c = 0x4D#8 then some .M
  else if c = 0x58#8 then some .X
  else if c = 0x59#8 then some .Y
  else if c = 0x53#8 then some .S
  else if c = 0x54#8 then some .T
  else none

/-- The numeral base of an area: octal for X and Y, decimal otherwise (R41, R92). -/
def areaBase : Area → Nat
  | .X => 8
  | .Y => 8
  | .D => 10
  | .M => 10
  | .S => 10
  | .T => 10

/-- The value of a digit character of the base; none for any other character (R93). -/
def digitVal (base : Nat) (c : Byte) : Option Nat :=
  if 0x30 ≤ c.toNat ∧ c.toNat ≤ 0x39 ∧ c.toNat - 0x30 < base then some (c.toNat - 0x30) else none

/-- The digit loop of `ParseAddress` from an accumulated offset: none on a character that is no digit of the base and,
after each digit, on an offset above 65535 (R90, R93, D5, D6). -/
def parseDigits (base : Nat) : Nat → List Byte → Option Nat
  | acc, [] => some acc
  | acc, c :: rest =>
    match digitVal base c with
    | none => none
    | some d => if Config.offsetMax < acc * base + d then none else parseDigits base (acc * base + d) rest

/-- `ParseAddress` (R90): the area and the offset, or `InvalidAddress`. -/
def parseAddress : List Byte → Except Err (Area × UnitAddr)
  | [] => .error .invalidAddress
  | letter :: digits =>
    match areaOf letter with
    | none => .error .invalidAddress
    | some area =>
      if digits = [] then .error .invalidAddress
      else
        match parseDigits (areaBase area) 0 digits with
        | none => .error .invalidAddress
        | some offset => .ok (area, BitVec.ofNat 16 offset)

/-- `Y_BIT_BASE` (R4, R104). -/
def yBitBase (straps : Straps) : Nat := if straps.yBase0400 then 0x0400 else 0x0500

/-- The byte-operation formulas (R96 to R101), on unbounded naturals. -/
def byteFormula (area : Area) (offset : Nat) : Nat :=
  match area with
  | .D => offset * 2 + 0x1000
  | .M => offset / 8 + 0x0100
  | .X => offset / 8 + 0x0080
  | .Y => offset / 8 + 0x00A0
  | .S => offset / 8
  | .T => offset / 8 + 0x00C0

/-- The bit-operation formulas (R102 to R106), on unbounded naturals; none where the area has none (D8 to D11). -/
def bitFormula (straps : Straps) (area : Area) (offset : Nat) : Option Nat :=
  match area with
  | .M => some (if 8000 ≤ offset then offset + 0x0F00 else offset + 0x0800)
  | .S => some offset
  | .Y => some (offset + yBitBase straps)
  | .T => if straps.tBitEn then some (offset + 0x0600) else none
  | .X => none
  | .D => none

/-- The range check of `Resolve`: a result above 0xFFFF is `InvalidAddress` (R107, D7). -/
def checkRange (u : Nat) : Except Err UnitAddr :=
  if 0xFFFF < u then .error .invalidAddress else .ok (BitVec.ofNat 16 u)

/-- `Resolve` (R95). -/
def resolve (straps : Straps) (area : Area) (offset : UnitAddr) (isByteOperation : Bool) : Except Err UnitAddr :=
  if isByteOperation then checkRange (byteFormula area offset.toNat)
  else
    match bitFormula straps area offset.toNat with
    | none => .error .unsupportedOperation
    | some u => checkRange u

end Sys2Proof.Machine
end

