-- ==== Sys2Proof/Machine/Ops.lean ====
section
/-! DEFINITION. The named operations over the registers, the buffers and the channel, and the ending of a command: the
one fault operation `State.raise` (R186) beside the normal completions (R187). There is no return from a fault: "Control
goes nowhere: there is no handler" (R186), "There is no return instruction" (R190). -/

namespace Sys2Proof.Machine

/-- The outcome of a meaning. -/
abbrev Result := Host.Outcome State Fault Refusal

/-- Store a byte sequence at the start of a buffer; the elements after it keep their content (R12, R20; DESIGN CHOICE,
unsafe: notes/assumptions/15.md). -/
def overlay (bytes buffer : List Byte) : List Byte := bytes ++ buffer.drop bytes.length

/-! ### Ending a command -/

/-- The completing step (R143): `STATUS`, `RDATA`, `LOCK` and `TSTATE` are written and the completion record is
emitted, all in one step. -/
def State.finish (s : State) (err : Err) (ackOk : Bool) (rdata : Word) : State :=
  { s with
    status := Status.completed err ackOk
    rdata := rdata
    lock := false
    tstate := .idle
    records := s.records ++ [{ req := s.cmdReq, err := err, ackOk := ackOk, rdata := rdata }] }

/-- Fault completion, `raise X` (R186): `ERR` is the fault, `ACK_OK` is 0, `RDATA` is unchanged
(D23). -/
def State.raise (s : State) (err : Err) : State := s.finish err false s.rdata

/-- Normal completion of a read command (R187): `RDATA` is the value, `ACK_OK` is 0. -/
def State.completeRead (s : State) (value : Word) : State := s.finish .ok false value

/-- Normal completion of a write command (R187): `ACK_OK` as given, `RDATA` unchanged. -/
def State.completeWrite (s : State) (ackOk : Bool) : State := s.finish .ok ackOk s.rdata

/-! ### The command latch and the working registers -/

/-- Acceptance of a command (R142): the lock is taken, `BUSY` set, `DONE` cleared, the latch loaded, in one step. -/
def State.accept (s : State) (c : Command) (rest : List Command) : State :=
  { s with
    lock := true
    status := s.status.accepted
    cmdOp := c.op
    cmdReq := c.req
    cmdAddr := overlay c.addr s.cmdAddr
    cmdAddrLen := BitVec.ofNat 4 c.addr.length
    cmdWdata := c.wdata
    waiting := rest }

/-- The latched address string: `CMD_ADDR` up to `CMD_ADDR_LEN`; the bytes above are ignored (R12). -/
def State.latchedAddr (s : State) : List Byte := s.cmdAddr.take s.cmdAddrLen.toNat

/-- What `ParseAddress` writes when it succeeds: `AREA`, `OFFSET`, `BITSEL` (R90, R18). -/
def State.setParsed (s : State) (area : Area) (offset : UnitAddr) : State :=
  { s with area := area, offset := offset, bitsel := offset.extractLsb' 0 3 }

/-- What `Resolve` writes when it succeeds: `UADDR` (R95). -/
def State.setUaddr (s : State) (u : UnitAddr) : State := { s with uaddr := u }

/-- What command decode writes: `LEN` (R17). -/
def State.setLen (s : State) (n : Nat) : State := { s with len := BitVec.ofNat 8 n }

/-- The request frame is built into `TXBUF`, `TX_LEN` (R20, R120), and `EXPECT_N` says what is waited for (R19). -/
def State.setFrame (s : State) (frame : List Byte) (expect : Nat) : State :=
  { s with
    txBuf := overlay frame s.txBuf
    txLen := BitVec.ofNat 5 frame.length
    expectN := BitVec.ofNat 10 expect
    frameReady := true }

/-! ### The channel (R197 to R199) -/

/-- `ChWrite` of a frame and the transition `Idle → Sent` (R131, R197). -/
def State.send (s : State) (frame : List Byte) : State :=
  { s with txlog := s.txlog ++ frame, tstate := .sent, frameReady := false }

/-- `ChAvail()` (R198). -/
def State.chAvail (s : State) : Nat := s.rxq.length

/-- How many bytes `ChRead(n)` returns: `n`, or fewer where the channel breaks its contract (R199, R141). -/
def State.chReadCount (s : State) (n : Nat) : Nat :=
  match s.chReadLimit with
  | none => n
  | some k => min n k

/-- `ChRead(n)` into `RXBUF` (R134, R199): the one operation that takes bytes from `RXQ`, which nothing flushes (R219,
D27). -/
def State.chRead (s : State) (n : Nat) : State :=
  let got := s.rxq.take (s.chReadCount n)
  { s with
    rxBuf := overlay got s.rxBuf
    rxGot := got.length
    rxq := s.rxq.drop (s.chReadCount n)
    chReadLimit := none }

/-! ### The transaction states -/

/-- `Sent → AwaitingLength` (R132): the clock and `TIMEOUT` are sampled; the sum is exact. No poll wait is in progress:
the first poll follows without any wait (R133). -/
def State.recordDeadline (s : State) : State :=
  { s with deadline := s.clock + s.timeout.toNat, tstate := .awaitingLength, pollHold := none }

/-- `AwaitingLength → Complete` (R134). -/
def State.takeResponse (s : State) : State :=
  { s.chRead s.expectN.toNat with tstate := .complete, pollHold := none }

/-- `AwaitingLength → TimedOut` (R135): nothing is read. -/
def State.giveUp (s : State) : State := { s with tstate := .timedOut, pollHold := none }

/-- The start of a poll wait (R136): `T_POLL` is the sample of this poll, `POLL_INTERVAL` is read
(D19, D28). -/
def State.startWait (s : State) : State := { s with tPoll := s.clock, pollHold := some s.pollInterval }

/-- One poll (R133): availability first, then the deadline, strictly, then the wait (D18). The two samples are taken in one step (DEDUCED,
safe: notes/assumptions/10.md). -/
def State.poll (s : State) : State :=
  if s.expectN.toNat ≤ s.chAvail then s.takeResponse
  else if s.deadline < s.clock then s.giveUp
  else s.startWait

/-- A step in `AwaitingLength`: the poll wait lasts until `Now() − T_POLL ≥ POLL_INTERVAL`, then the engine polls
(R136). -/
def State.await (s : State) : State :=
  match s.pollHold with
  | none => s.poll
  | some d => if s.clock < s.tPoll + d.toNat then s else s.poll

/-! ### Register accesses of requesters (R30, R195) -/

/-- The value a requester reads, zero-extended to 32 bits. -/
def State.readReg (s : State) : HostReg → Word
  | .status => (statusBits s.status).setWidth 32
  | .rdata => s.rdata
  | .config => (configBits s.config).setWidth 32
  | .timeout => s.timeout
  | .pollInterval => s.pollInterval

/-! ### Reset (R210 to R212) -/

/-- Reset of the engine in a running system: every register of the engine takes the value of `State.reset`, the straps
stay, the command in flight is abandoned without a record, and the environment is not touched. -/
def State.engineReset (s : State) : State :=
  { State.reset with
    config := s.config
    rxq := s.rxq
    txlog := s.txlog
    chReadLimit := s.chReadLimit
    clock := s.clock
    waiting := s.waiting
    records := s.records
    readLog := s.readLog
    schedule := s.schedule }

end Sys2Proof.Machine
end

