-- ==== Sys2Proof/Machine/ReadCommands.lean ====
section
/-! DEFINITION. The read commands RD_BIT, RD_BYTE, RD_U16, RD_U32, RD_F32 (spec/45_read_commands.md). The meaning of a
command is its execution from the latch: the local checks and the building of its request frame. The frame and the
response are instructions of their own (Machine/Requests.lean, Machine/Responses.lean), which the engine runs next. -/

namespace Sys2Proof.Machine

/-- The common sequence of a read command of width `n` up to its frame (R160), in the order of checks of R188 (D36). -/
def readCommand (n : Config.ValueWidth) (addr : List Byte) (s : State) : Result :=
  match parseAddress addr with
  | .error e => .next (s.raise e)
  | .ok (area, offset) =>
    match resolve s.config area offset true with
    | .error e => .next ((s.setParsed area offset).raise e)
    | .ok u =>
      .next ((((s.setParsed area offset).setUaddr u).setLen n.bytes).setFrame (buildRead u n.bytes)
        (2 * n.bytes + 4))

/-- RD_BIT (R161, D14). The bit is extracted from the response (R158). -/
def execRdBit (addr : List Byte) (s : State) : Result := readCommand .one addr s

/-- RD_BYTE: one byte (R162, D15). -/
def execRdByte (addr : List Byte) (s : State) : Result := readCommand .one addr s

/-- RD_U16 (R163). -/
def execRdU16 (addr : List Byte) (s : State) : Result := readCommand .two addr s

/-- RD_U32 (R164). -/
def execRdU32 (addr : List Byte) (s : State) : Result := readCommand .four addr s

/-- RD_F32 (R165): on the wire exactly RD_U32. -/
def execRdF32 (addr : List Byte) (s : State) : Result := readCommand .four addr s

end Sys2Proof.Machine
end

