-- ==== Sys2Proof/Machine/Requests.lean ====
section
/-! DEFINITION. The request frames READ, WRITE, SET, RESET (spec/42_frame_builder.md). What the engine does with a
request frame is to write it to the channel in one call and wait for the response: `Idle → Sent` (R131). What the frame
asks of the controller is the environment's (R52). -/

namespace Sys2Proof.Machine

/-- READ with LEN 1 (R121). -/
def execRead1 (u : UnitAddr) (s : State) : Result := .next (s.send (buildRead u 1))

/-- READ with LEN 2 (R121). -/
def execRead2 (u : UnitAddr) (s : State) : Result := .next (s.send (buildRead u 2))

/-- READ with LEN 4 (R121). -/
def execRead4 (u : UnitAddr) (s : State) : Result := .next (s.send (buildRead u 4))

/-- WRITE with LEN 1 (R122). -/
def execWrite1 (u : UnitAddr) (d0 : Byte) (s : State) : Result := .next (s.send (buildWrite u 1 [d0]))

/-- WRITE with LEN 2 (R122). -/
def execWrite2 (u : UnitAddr) (d0 d1 : Byte) (s : State) : Result := .next (s.send (buildWrite u 2 [d0, d1]))

/-- WRITE with LEN 4 (R122). -/
def execWrite4 (u : UnitAddr) (d0 d1 d2 d3 : Byte) (s : State) : Result :=
  .next (s.send (buildWrite u 4 [d0, d1, d2, d3]))

/-- SET (R124). -/
def execSetBit (u : UnitAddr) (s : State) : Result := .next (s.send (buildBit u true))

/-- RESET (R125). -/
def execResetBit (u : UnitAddr) (s : State) : Result := .next (s.send (buildBit u false))

end Sys2Proof.Machine
end

