-- ==== Sys2Proof/Machine/Responses.lean ====
section
/-! DEFINITION. The responses ACK and RDRESP: the Response Interpreter (spec/44_response_interpreter.md) and the
completion of the command in flight. -/

namespace Sys2Proof.Machine

/-- ACK (R151): every byte value is legal; 0x06 means success. -/
def execAck (k : Byte) (s : State) : Result := .next (s.completeWrite (ackFlag k))

/-- A read response of `n` bytes (R152): `InvalidFrame`, or the value through `deliver` into `RDATA`. -/
def readResponse (n : Nat) (rx : List Byte) (deliver : Word → Word) (s : State) : Result :=
  match interpretRead s.config.dataLsbFirst n rx with
  | none => .next (s.raise .invalidFrame)
  | some v => .next (s.completeRead (deliver v))

/-- `ExtractBit` (R158): bit `BITSEL` by shift and mask. -/
def extractBit (v : Word) (bitsel : BitVec 3) : Word := (v >>> bitsel.toNat) &&& 1#32

/-- What a one-byte response delivers: the bit `BITSEL` for RD_BIT, the byte otherwise (R160, R161, R162). -/
def deliverByte (op : Opcode) (bitsel : BitVec 3) (v : Word) : Word :=
  if op = 0b0000#4 then extractBit v bitsel else v

/-- RDRESP with LEN 1 (R152, R161, R162). -/
def execRdresp1 (c0 c1 s0 s1 : Byte) (s : State) : Result :=
  readResponse 1 [stx, c0, c1, etx, s0, s1] (deliverByte s.cmdOp s.bitsel) s

/-- RDRESP with LEN 2 (R152, R163). -/
def execRdresp2 (c0 c1 c2 c3 s0 s1 : Byte) (s : State) : Result :=
  readResponse 2 [stx, c0, c1, c2, c3, etx, s0, s1] id s

/-- RDRESP with LEN 4 (R152, R164, R165). -/
def execRdresp4 (c0 c1 c2 c3 c4 c5 c6 c7 s0 s1 : Byte) (s : State) : Result :=
  readResponse 4 [stx, c0, c1, c2, c3, c4, c5, c6, c7, etx, s0, s1] id s

end Sys2Proof.Machine
end

