-- ==== Sys2Proof/Machine/WriteCommands.lean ====
section
/-! DEFINITION. The write commands WR_BIT, WR_BYTE, WR_U16, WR_U32, WR_F32 (spec/46_write_commands.md), as far as their
request frame, and the reserved opcodes (R63). -/

namespace Sys2Proof.Machine

/-- The common sequence of a write command of width `n` up to its frame (R170), in the order of checks of R188
(D36); the bits of the value above the width are ignored (R13, D33). -/
def writeCommand (n : Config.ValueWidth) (addr : List Byte) (wdata : Word) (s : State) : Result :=
  match parseAddress addr with
  | .error e => .next (s.raise e)
  | .ok (area, offset) =>
    match resolve s.config area offset true with
    | .error e => .next ((s.setParsed area offset).raise e)
    | .ok u =>
      .next ((((s.setParsed area offset).setUaddr u).setLen n.bytes).setFrame
        (buildWrite u n.bytes (wireBytes s.config.dataLsbFirst wdata n)) 1)

/-- WR_BIT (R170, R171): the bit-operation address, SET when `wdata[0]` is 1 and RESET otherwise; `LEN` is unused
(R17). -/
def execWrBit (addr : List Byte) (wdata : Word) (s : State) : Result :=
  match parseAddress addr with
  | .error e => .next (s.raise e)
  | .ok (area, offset) =>
    match resolve s.config area offset false with
    | .error e => .next ((s.setParsed area offset).raise e)
    | .ok u => .next (((s.setParsed area offset).setUaddr u).setFrame (buildBit u (wdata.getLsbD 0)) 1)

/-- WR_BYTE (R172). -/
def execWrByte (addr : List Byte) (wdata : Word) (s : State) : Result := writeCommand .one addr wdata s

/-- WR_U16 (R173). -/
def execWrU16 (addr : List Byte) (wdata : Word) (s : State) : Result := writeCommand .two addr wdata s

/-- WR_U32 (R174). -/
def execWrU32 (addr : List Byte) (wdata : Word) (s : State) : Result := writeCommand .four addr wdata s

/-- WR_F32 (R175): on the wire exactly WR_U32. -/
def execWrF32 (addr : List Byte) (wdata : Word) (s : State) : Result := writeCommand .four addr wdata s

/-- A reserved opcode: no channel activity, `UnsupportedOperation` (R63, R182, D29); the address is not looked at (R188). -/
def reservedCommand (s : State) : Result := .next (s.raise .unsupportedOperation)

/-- Opcode 0b0101 (R63). -/
def execReserved0101 (s : State) : Result := reservedCommand s

/-- Opcode 0b0110 (R63). -/
def execReserved0110 (s : State) : Result := reservedCommand s

/-- Opcode 0b0111 (R63). -/
def execReserved0111 (s : State) : Result := reservedCommand s

/-- Opcode 0b1101 (R63). -/
def execReserved1101 (s : State) : Result := reservedCommand s

/-- Opcode 0b1110 (R63). -/
def execReserved1110 (s : State) : Result := reservedCommand s

/-- Opcode 0b1111 (R63). -/
def execReserved1111 (s : State) : Result := reservedCommand s

end Sys2Proof.Machine
end

