-- ==== Sys2Proof/Machine/Dispatch.lean ====
section
/-! DEFINITION. The meaning of every instruction: one arm per constructor of `Instr`, each one direct call. -/

namespace Sys2Proof.Machine

def exec (i : Instr) (s : State) : Host.Outcome State Fault Refusal :=
  match i with
  | .rdBit addr => Sys2Proof.Machine.execRdBit addr s
  | .rdByte addr => Sys2Proof.Machine.execRdByte addr s
  | .rdU16 addr => Sys2Proof.Machine.execRdU16 addr s
  | .rdU32 addr => Sys2Proof.Machine.execRdU32 addr s
  | .rdF32 addr => Sys2Proof.Machine.execRdF32 addr s
  | .wrBit addr wdata => Sys2Proof.Machine.execWrBit addr wdata s
  | .wrByte addr wdata => Sys2Proof.Machine.execWrByte addr wdata s
  | .wrU16 addr wdata => Sys2Proof.Machine.execWrU16 addr wdata s
  | .wrU32 addr wdata => Sys2Proof.Machine.execWrU32 addr wdata s
  | .wrF32 addr wdata => Sys2Proof.Machine.execWrF32 addr wdata s
  | .reserved0101 => Sys2Proof.Machine.execReserved0101 s
  | .reserved0110 => Sys2Proof.Machine.execReserved0110 s
  | .reserved0111 => Sys2Proof.Machine.execReserved0111 s
  | .reserved1101 => Sys2Proof.Machine.execReserved1101 s
  | .reserved1110 => Sys2Proof.Machine.execReserved1110 s
  | .reserved1111 => Sys2Proof.Machine.execReserved1111 s
  | .read1 u => Sys2Proof.Machine.execRead1 u s
  | .read2 u => Sys2Proof.Machine.execRead2 u s
  | .read4 u => Sys2Proof.Machine.execRead4 u s
  | .write1 u d0 => Sys2Proof.Machine.execWrite1 u d0 s
  | .write2 u d0 d1 => Sys2Proof.Machine.execWrite2 u d0 d1 s
  | .write4 u d0 d1 d2 d3 => Sys2Proof.Machine.execWrite4 u d0 d1 d2 d3 s
  | .setBit u => Sys2Proof.Machine.execSetBit u s
  | .resetBit u => Sys2Proof.Machine.execResetBit u s
  | .ack k => Sys2Proof.Machine.execAck k s
  | .rdresp1 c0 c1 s0 s1 => Sys2Proof.Machine.execRdresp1 c0 c1 s0 s1 s
  | .rdresp2 c0 c1 c2 c3 s0 s1 => Sys2Proof.Machine.execRdresp2 c0 c1 c2 c3 s0 s1 s
  | .rdresp4 c0 c1 c2 c3 c4 c5 c6 c7 s0 s1 => Sys2Proof.Machine.execRdresp4 c0 c1 c2 c3 c4 c5 c6 c7 s0 s1 s

end Sys2Proof.Machine
end

