-- ==== Sys2Proof/WellFormed.lean ====
section
/-! DEFINITION. Which instructions and commands the hardware can be given at all. The one limit is the address string:
"A requester cannot submit a string longer than `ADDR_LEN_MAX` characters" (R12). Everything else an instruction can
hold is bounded by its operands' widths. -/

namespace Sys2Proof

/-- The address string fits `CMD_ADDR` (R12). -/
def addrFits (addr : List Byte) : Bool := decide (addr.length ≤ Config.addrLenMax)

/-- A well-formed instruction: every host command's address string fits the latch (R12). -/
def Instr.wellFormed : Instr → Bool
  | .rdBit a => addrFits a
  | .rdByte a => addrFits a
  | .rdU16 a => addrFits a
  | .rdU32 a => addrFits a
  | .rdF32 a => addrFits a
  | .wrBit a _ => addrFits a
  | .wrByte a _ => addrFits a
  | .wrU16 a _ => addrFits a
  | .wrU32 a _ => addrFits a
  | .wrF32 a _ => addrFits a
  | .reserved0101 => true
  | .reserved0110 => true
  | .reserved0111 => true
  | .reserved1101 => true
  | .reserved1110 => true
  | .reserved1111 => true
  | .read1 _ => true
  | .read2 _ => true
  | .read4 _ => true
  | .write1 _ _ => true
  | .write2 _ _ _ => true
  | .write4 _ _ _ _ _ => true
  | .setBit _ => true
  | .resetBit _ => true
  | .ack _ => true
  | .rdresp1 _ _ _ _ => true
  | .rdresp2 _ _ _ _ _ _ => true
  | .rdresp4 _ _ _ _ _ _ _ _ _ _ => true

/-- A command that a requester can submit (R12). -/
def Command.wellFormed (c : Command) : Bool := addrFits c.addr

end Sys2Proof
end

