-- ==== Sys2Proof/Machine/Environment.lean ====
section
/-! DEFINITION. The moves of the environment (R6): the clock, the controller, the requesters, the channel and the reset
input. Each is constrained only as R192, R196 to R200, R201 and R216 (g) say. Register accesses carry no tag: with any
number of requesters (R6) each is one that a requester without a command makes (notes/assumptions/26.md). -/

namespace Sys2Proof.Machine

/-- Put a command among the waiting ones at any place: which of them is accepted next is open (R144; DESIGN CHOICE, safe:
notes/assumptions/14.md). -/
def insertAt (place : Nat) (c : Command) (waiting : List Command) : List Command :=
  waiting.take place ++ c :: waiting.drop place

/-- The requester has a command waiting or in flight: until it receives the completion record it "does nothing else"
(R201), so it submits nothing (R216 (g)). -/
def State.blocked (s : State) (req : Nat) : Bool :=
  (s.lock && s.cmdReq == req) || s.waiting.any fun c => c.req == req

/-- One move of the environment. `Move.engine` is no move of the environment and changes nothing here. -/
def environmentMove (m : Move) (s : State) : Result :=
  match m with
  | .engine => .next s
  | .tick d => .next { s with clock := s.clock + d }
  | .arrive bytes => .next { s with rxq := s.rxq ++ bytes }
  | .submit place c =>
    if !c.wellFormed then .refused .commandNotSubmittable
    else if s.blocked c.req then .refused .requesterBlocked
    else .next { s with waiting := insertAt place c s.waiting }
  | .writeTimeout v => .next { s with timeout := v }
  | .writePollInterval v => .next { s with pollInterval := v }
  | .readReg r => .next { s with readLog := s.readLog ++ [(r, s.readReg r)] }
  | .shortRead k => .next { s with chReadLimit := some k }
  | .reset => .next s.engineReset

end Sys2Proof.Machine
end

