-- ==== Sys2Proof/Machine/Engine.lean ====
section
/-! DEFINITION. One step of the engine: where it finds its next instruction (the latch, `TXBUF`, `RXBUF`: `TSTATE` "is
the analogue of a program counter", R21), the transitions of `TSTATE` that run no instruction (R132 to R137, R142), and
how a decoded instruction is run. -/

namespace Sys2Proof.Machine

/-- The next instruction's code, where `LOCK` and `TSTATE` say that one is run: the latched command (R57), the frame in
`TXBUF` when it is built (R131), the response in `RXBUF` when all of it was read (R137, R150). -/
def fetch (s : State) : Option Code :=
  if s.lock then
    match s.tstate with
    | .idle =>
      if s.frameReady then some (.request (s.txBuf.take s.txLen.toNat))
      else some (.command s.cmdOp s.latchedAddr s.cmdWdata)
    | .sent => none
    | .awaitingLength => none
    | .complete =>
      if s.rxGot < s.expectN.toNat then none else some (.response (s.rxBuf.take s.expectN.toNat))
    | .timedOut => none
  else none

/-- The step of an engine whose lock is free: the first waiting command is accepted (R142); with none waiting the engine
waits (R203). -/
def idleStep (s : State) : State :=
  match s.waiting with
  | [] => s
  | c :: rest => s.accept c rest

/-- The engine's step where it runs no instruction. In `complete` this is the short read of R141. -/
def transition (s : State) : State :=
  if s.lock then
    match s.tstate with
    | .idle => s
    | .sent => s.recordDeadline
    | .awaitingLength => s.await
    | .complete => s.raise .invalidFrame
    | .timedOut => s.raise .timeout
  else idleStep s

/-- What the engine does with bytes that decode to no instruction: a response that is no RDRESP is malformed (R79, R153,
R154); a frame buffer without a frame is a state no run reaches. -/
def undecoded (code : Code) (s : State) : Result :=
  match code with
  | .command _ _ _ => .next s
  | .request _ => .fault .requestBufferCorrupt
  | .response _ => .next (s.raise .invalidFrame)

/-- One step of the engine. -/
def engineStep (s : State) : Result :=
  match fetch s with
  | none => .next (transition s)
  | some code =>
    match decode code with
    | .ok i => exec i s
    | .error _ => undecoded code s

/-- One move of the system: the first of the schedule; the engine moves when the schedule is empty. -/
def systemStep (s : State) : Result :=
  match s.schedule with
  | [] => engineStep s
  | .engine :: rest => engineStep { s with schedule := rest }
  | m :: rest => environmentMove m { s with schedule := rest }

/-- Put an instruction's code where the engine fetches it next, and make the engine move next. -/
def placeCode (code : Code) (s : State) : State :=
  match code with
  | .command op addr wdata =>
    { s with
      schedule := [], lock := true, status := s.status.accepted, tstate := .idle, frameReady := false
      cmdOp := op, cmdAddr := overlay addr s.cmdAddr, cmdAddrLen := BitVec.ofNat 4 addr.length, cmdWdata := wdata }
  | .request bytes =>
    { s with
      schedule := [], lock := true, status := s.status.accepted, tstate := .idle, frameReady := true
      txBuf := overlay bytes s.txBuf, txLen := BitVec.ofNat 5 bytes.length }
  | .response bytes =>
    { s with
      schedule := [], lock := true, status := s.status.accepted, tstate := .complete
      rxBuf := overlay bytes s.rxBuf, rxGot := bytes.length, expectN := BitVec.ofNat 10 bytes.length }

end Sys2Proof.Machine
end

