-- ==== Sys2Proof/Machine/Step.lean ====
section
/-! DEFINITION. The step of the machine, and the placing of one instruction where the step fetches. -/

namespace Sys2Proof.Machine

/-- One step: one move of the system (R6, R228). -/
def step (s : State) : Host.Outcome State Fault Refusal := systemStep s

/-- `s` with the instruction of the table's word `w` placed where the next step fetches it: the latch for a host
command, `TXBUF` for a request, `RXBUF` for a response. A word that is of no level changes nothing. -/
def State.withFetchWord (s : State) (nbits w : Nat) : State :=
  match codeOfTableWord nbits w with
  | none => s
  | some code => placeCode code s

end Sys2Proof.Machine
end

