-- ==== Sys2Proof/Safety.lean ====
section
/-! DEFINITION. What a well-behaved state is, in the terms the statements use: the invariant of the engine, the
premises on the environment (R216), and which bytes are a request frame. -/

namespace Sys2Proof.Machine

/-- The bytes are a request frame: they decode to READ, WRITE, SET or RESET. -/
def isRequest (bytes : List Byte) : Bool :=
  match decodeRequest bytes with
  | .ok _ => true
  | .error _ => false

/-- `EXPECT_N` of each opcode (R19, R62); a reserved opcode waits for nothing. -/
def expectOf (op : Opcode) : Option Nat :=
  match op.toNat with
  | 0 => some 6
  | 1 => some 6
  | 2 => some 8
  | 3 => some 12
  | 4 => some 12
  | 8 => some 1
  | 9 => some 1
  | 10 => some 1
  | 11 => some 1
  | 12 => some 1
  | _ => none

/-- A request is built, sent or being answered. -/
def State.inTransaction (s : State) : Prop := s.frameReady = true ∨ s.tstate ≠ .idle

/-- The invariant that every step keeps. -/
structure State.Inv (s : State) : Prop where
  /-- "`STATUS.BUSY` always equals `LOCK`" (R23). -/
  busyIsLock : s.status.busy = s.lock
  /-- `TSTATE` "holds `Idle` whenever `LOCK = 0`" (R21), and then no request is built. -/
  freeIdle : s.lock = false → s.tstate = .idle ∧ s.frameReady = false
  /-- A request is built before the transaction leaves `Idle` (R127) and is one of the four frames (R78). -/
  frameBuilt : s.frameReady = true → s.tstate = .idle ∧ isRequest (s.txBuf.take s.txLen.toNat) = true
  /-- The buffers have the sizes of R10. -/
  addrSize : s.cmdAddr.length = Config.addrLenMax
  addrLen : s.cmdAddrLen.toNat ≤ Config.addrLenMax
  txSize : s.txBuf.length = 19
  rxSize : s.rxBuf.length = 12
  /-- Only well-formed commands wait (R12). -/
  waitingFit : ∀ c ∈ s.waiting, c.wellFormed = true
  /-- No requester has two commands waiting: each waits for its completion record before submitting again (R201, R216
  (g)). -/
  oneEach : (s.waiting.map Command.req).Nodup
  /-- The requester of the command in flight has none waiting (R201). -/
  notInFlight : s.lock = true → ∀ c ∈ s.waiting, c.req ≠ s.cmdReq
  /-- During a transaction `EXPECT_N` is that of the latched opcode (R19). -/
  expectsItsOpcode : s.inTransaction → expectOf s.cmdOp = some s.expectN.toNat
  /-- The channel's read never returned more than was asked for (R134). -/
  gotAtMost : s.tstate = .complete → s.rxGot ≤ s.expectN.toNat
  /-- A poll wait is in progress in `AwaitingLength` only, and its sample is past (R136, R192). -/
  holdOnlyAwaiting : s.pollHold ≠ none → s.tstate = .awaitingLength ∧ s.tPoll ≤ s.clock

/-- Premise (g) of R216, its first half, on the moves to come: no requester submits an address string that does not fit. -/
def State.submitsFit (s : State) : Prop := ∀ place c, Move.submit place c ∈ s.schedule → c.wellFormed = true

/-- Premise (g) of R216, its second half, on the next move: a requester that submits has no command waiting or in flight
(R201). -/
def State.submitterWaits (s : State) : Prop :=
  ∀ place c rest, s.schedule = .submit place c :: rest →
    (s.lock = true → c.req ≠ s.cmdReq) ∧ ∀ w ∈ s.waiting, c.req ≠ w.req

/-- Premise (d) of R216: the channel keeps its contract, now and in the moves to come. -/
def State.channelKeepsContract (s : State) : Prop :=
  s.chReadLimit = none ∧ ∀ k, Move.shortRead k ∉ s.schedule

/-- The channel keeps its contract, and what was read of a response in progress is all that was asked for (R199). -/
def State.readsWhole (s : State) : Prop :=
  s.channelKeepsContract ∧ (s.tstate = .complete → s.rxGot = s.expectN.toNat)

/-- `s` with every register whose reset value R31 calls unspecified, and the model's own fields beside them, set to
their values in `State.reset`: what is left is all that R31 gives a value, and the environment. -/
def State.specified (s : State) : State :=
  { s with
    cmdOp := State.reset.cmdOp, cmdReq := State.reset.cmdReq, cmdAddr := State.reset.cmdAddr
    cmdAddrLen := State.reset.cmdAddrLen, cmdWdata := State.reset.cmdWdata
    area := State.reset.area, offset := State.reset.offset, uaddr := State.reset.uaddr
    len := State.reset.len, bitsel := State.reset.bitsel, expectN := State.reset.expectN
    txBuf := State.reset.txBuf, txLen := State.reset.txLen, rxBuf := State.reset.rxBuf
    deadline := State.reset.deadline, tPoll := State.reset.tPoll
    pollHold := State.reset.pollHold, rxGot := State.reset.rxGot }

/-! ### The spec's own words for frames and completions, independent of the operations of the machine -/

/-- The two checksum characters of a range: its sum modulo 256 as two digits (R67, R110). -/
def sumDigits (range : List Byte) : List Byte :=
  let n := (range.map BitVec.toNat).sum % 256
  [hexChar (BitVec.ofNat 4 (n / 16)), hexChar (BitVec.ofNat 4 (n % 16))]

/-- The two characters of a byte, high digit first (R46). -/
def byteDigits (b : Byte) : List Byte := [hexChar (b.extractLsb' 4 4), hexChar (b.extractLsb' 0 4)]

/-- The four digits `h3 h2 h1 h0` of a unit address (R73). -/
def fourDigits (u : UnitAddr) : List Byte :=
  [hexChar (u.extractLsb' 12 4), hexChar (u.extractLsb' 8 4), hexChar (u.extractLsb' 4 4), hexChar (u.extractLsb' 0 4)]

/-- The four digits `h1 h0 h3 h2` of a byte-pair reversed unit address (R73, R112). -/
def fourDigitsSwapped (u : UnitAddr) : List Byte :=
  [hexChar (u.extractLsb' 4 4), hexChar (u.extractLsb' 0 4), hexChar (u.extractLsb' 12 4), hexChar (u.extractLsb' 8 4)]

/-- Start byte, body, end byte, checksum (R67). -/
def framed (body : List Byte) : List Byte := [0x02#8] ++ body ++ [0x03#8] ++ sumDigits (body ++ [0x03#8])

/-- The READ frame of R68, for a length of one digit. -/
def specReadFrame (u : UnitAddr) (n : Nat) : List Byte :=
  framed ([0x30#8] ++ fourDigits u ++ [0x30#8, BitVec.ofNat 8 (0x30 + n)])

/-- The WRITE frame of R69, for a length of one digit. -/
def specWriteFrame (u : UnitAddr) (n : Nat) (bytes : List Byte) : List Byte :=
  framed ([0x31#8] ++ fourDigits u ++ [0x30#8, BitVec.ofNat 8 (0x30 + n)] ++ bytes.flatMap byteDigits)

/-- The SET or RESET frame of R70. -/
def specBitFrame (u : UnitAddr) (set : Bool) : List Byte :=
  framed ([if set then 0x37#8 else 0x38#8] ++ fourDigitsSwapped u)

/-- The state after a completion with the given status fields and result (R143, R186, R187). -/
def State.completedWith (s : State) (err : Err) (ackOk : Bool) (rdata : Word) : State :=
  { s with
    status := { busy := false, done := true, ackOk := ackOk, err := err }
    rdata := rdata
    lock := false
    tstate := .idle
    records := s.records ++ [{ req := s.cmdReq, err := err, ackOk := ackOk, rdata := rdata }] }

/-- The state after a fault completion (R186). -/
def State.faultedWith (s : State) (err : Err) : State := s.completedWith err false s.rdata

/-- The state with an address parsed (R90). -/
def State.parsedAs (s : State) (area : Area) (offset : UnitAddr) : State :=
  { s with area := area, offset := offset, bitsel := BitVec.ofNat 3 offset.toNat }

/-- The state with a request frame built (R120, R19). -/
def State.builtAs (s : State) (u : UnitAddr) (frame : List Byte) (expect : Nat) : State :=
  { s with
    uaddr := u
    txBuf := frame ++ s.txBuf.drop frame.length
    txLen := BitVec.ofNat 5 frame.length
    expectN := BitVec.ofNat 10 expect
    frameReady := true }

/-- The length of an instruction on the wire, by its shape (R77); a host command is not on the wire. -/
def wireLength : Instr → Option Nat
  | .read1 _ => some 11
  | .read2 _ => some 11
  | .read4 _ => some 11
  | .write1 _ _ => some 13
  | .write2 _ _ _ => some 15
  | .write4 _ _ _ _ _ => some 19
  | .setBit _ => some 9
  | .resetBit _ => some 9
  | .ack _ => some 1
  | .rdresp1 _ _ _ _ => some 6
  | .rdresp2 _ _ _ _ _ _ => some 8
  | .rdresp4 _ _ _ _ _ _ _ _ _ _ => some 12
  | .rdBit _ => none
  | .rdByte _ => none
  | .rdU16 _ => none
  | .rdU32 _ => none
  | .rdF32 _ => none
  | .wrBit _ _ => none
  | .wrByte _ _ => none
  | .wrU16 _ _ => none
  | .wrU32 _ _ => none
  | .wrF32 _ _ => none
  | .reserved0101 => none
  | .reserved0110 => none
  | .reserved0111 => none
  | .reserved1101 => none
  | .reserved1110 => none
  | .reserved1111 => none

/-- The value of a byte sequence in wire order (R49). -/
def wireValue (lsbFirst : Bool) (bytes : List Byte) : Nat :=
  ((if lsbFirst then bytes else bytes.reverse).zipIdx.map fun p => p.1.toNat * 256 ^ p.2).sum

end Sys2Proof.Machine
end

