-- ==== Sys2Proof/Certificates/Slice0/Obligations.lean ====
section
/-! DEFINITION. The statements for the provers. Each says in its docstring which rule of spec/ it formalises or rests
on. -/

open Sys2Proof Sys2Proof.Machine

/-! ### Encoding and decoding -/

/-- Decoding what the encoder writes gives the instruction back, for every instruction and every operand (R62, R63, R68
to R72). -/
def Obligations.DecodeOfEncodeIsIdentity : Prop :=
  ∀ i : Instr, i.wellFormed = true → decode (encode i) = .ok i

/-- Bytes that decode are the encoding of what they decode to: no two frames and no two responses mean the same. A
command's opcode is kept by decoding and encoding; a read's value and a reserved opcode's operands are ignored (R13,
R63). -/
def Obligations.EncodeOfDecodeIsIdentity : Prop :=
  (∀ bytes i, decode (.request bytes) = .ok i → encode i = .request bytes) ∧
  (∀ bytes i, decode (.response bytes) = .ok i → encode i = .response bytes) ∧
  (∀ op addr wdata, ∃ i, decode (.command op addr wdata) = .ok i ∧
    encode i = .command op (if (expectOf op).isSome then addr else [])
      (if (expectOf op).isSome ∧ op.getLsbD 3 = true then wdata else 0))

/-- A well-formed instruction put into the registers the engine fetches from (the latch, `TXBUF`, `RXBUF`) is fetched
whole, and the next step is its meaning. The placing is the model's own device (notes/assumptions/1.md). -/
def Obligations.PlacedInstructionIsFetchedAndRun : Prop :=
  ∀ (i : Instr) (s : State), i.wellFormed = true →
    fetch (placeCode (encode i) s) = some (encode i) ∧
    step (placeCode (encode i) s) = exec i (placeCode (encode i) s)

/-- Words of the opcode table, written out bit by bit from spec/30_encoding.md, decode to what they stand for. The first
byte of a frame is in the least significant bits; that a word of one byte below 16 is a host opcode is the model's choice
(notes/assumptions/9.md). -/
def Obligations.TableWordsDecode : Prop :=
  decodeTableWord 8 0b0011 = some (.rdU32 []) ∧
  decodeTableWord 8 0b1000 = some (.wrBit [] 0) ∧
  decodeTableWord 8 0b0111 = some .reserved0111 ∧
  decodeTableWord 88 0x3635033230303030313002 = some (.read2 0x1000) ∧
  decodeTableWord 72 0x323003383030303702 = some (.setBit 0x0800) ∧
  decodeTableWord 64 0x4443033231343302 = some (.rdresp2 0x33 0x34 0x31 0x32 0x43 0x44)

/-- A step runs the decoded instruction: when the engine moves and what it fetches decodes to `i`, the step is `exec i`,
and the only thing it does besides is to take its own move off the schedule. Where it fetches nothing, the step is the
engine's transition, and where the bytes decode to no instruction, what `undecoded` says of them, each with its own move
taken off the schedule and nothing else added (R21, R57). -/
def Obligations.StepRunsTheDecodedInstruction : Prop :=
  ∀ s : State,
    (∀ code i, fetch s = some code → decode code = .ok i →
      (s.schedule = [] → step s = exec i s) ∧
      (∀ rest, s.schedule = .engine :: rest → step s = exec i { s with schedule := rest })) ∧
    (fetch s = none →
      (s.schedule = [] → step s = .next (transition s)) ∧
      (∀ rest, s.schedule = .engine :: rest → step s = .next (transition { s with schedule := rest }))) ∧
    (∀ code e, fetch s = some code → decode code = .error e →
      (s.schedule = [] → step s = undecoded code s) ∧
      (∀ rest, s.schedule = .engine :: rest → step s = undecoded code { s with schedule := rest }))

/-! ### The Ascii Codec -/

/-- R117: a rendered number decodes to its bytes, most significant first for the big-endian rendering and least
significant first for the little-endian one. -/
def Obligations.RenderedNumberDecodesToItsBytes : Prop :=
  ∀ (v n : Nat) (le : Bool), n % 2 = 0 → v < 16 ^ n →
    ∃ text, numberToAsciiHex v n le = some text ∧ text.length = n ∧
      asciiHexToBytes text = some ((List.range (n / 2)).map fun j =>
        BitVec.ofNat 8 (v / 256 ^ (if le then j else n / 2 - 1 - j)))

/-- R118: the checksum changes if and only if the byte sum modulo 256 changes; so it does not see a permutation. -/
def Obligations.ChecksumIsTheSumModulo256 : Prop :=
  (∀ xs ys : List Byte, checksumAscii xs = checksumAscii ys ↔
    (xs.map BitVec.toNat).sum % 256 = (ys.map BitVec.toNat).sum % 256) ∧
  (∀ xs ys : List Byte, xs.Perm ys → checksumAscii xs = checksumAscii ys)

/-- R73: the digits of the ADDR field, in their order, for both kinds of operation. -/
def Obligations.AddressFieldDigits : Prop :=
  ∀ u : UnitAddr,
    numberToAsciiHex u.toNat 4 false = some (fourDigits u) ∧ addrField u = fourDigits u ∧
    numberToAsciiHex u.toNat 4 true = some (fourDigitsSwapped u) ∧ bitAddrField u = fourDigitsSwapped u

/-- R116: the value of a byte sequence is the weighted sum of its bytes, and rendering, decoding and evaluating a value
gives it back, for both settings of `DATA_LSB_FIRST`. R115: the rendering of a value is that of its number, little-endian
exactly when `DATA_LSB_FIRST` holds; a width other than 1, 2, 4 is refused (U16 of spec/93_implementation_defined.md). -/
def Obligations.ValueRoundTrip : Prop :=
  (∀ (lsb : Bool) (bytes : List Byte), bytes.length ∈ [1, 2, 4] →
    (bytesToValue lsb bytes).toNat = wireValue lsb bytes) ∧
  (∀ (lsb : Bool) (n : Nat) (v : Word), n ∈ [1, 2, 4] → v.toNat < 256 ^ n →
    ∃ text, valueToAsciiHex lsb v n = some text ∧ text.length = 2 * n ∧
      numberToAsciiHex v.toNat (2 * n) lsb = some text ∧
      (asciiHexToBytes text).map (bytesToValue lsb) = some v) ∧
  (∀ (lsb : Bool) (n : Nat) (v : Word), n ∉ [1, 2, 4] → valueToAsciiHex lsb v n = none)

/-- R113, R114: the sixteen hex characters and their values; `AsciiHexToBytes` fails exactly on an odd length or a
character outside them, and otherwise gives one byte per pair in the order of the text, the first character of a pair
its high digit. -/
def Obligations.HexDecodingAcceptsExactly : Prop :=
  (∀ (c : Byte) (d : BitVec 4), hexVal c = some d ↔
    (0x30 ≤ c.toNat ∧ c.toNat ≤ 0x39 ∧ d.toNat = c.toNat - 0x30) ∨
    (0x41 ≤ c.toNat ∧ c.toNat ≤ 0x46 ∧ d.toNat = c.toNat - 0x41 + 10)) ∧
  (∀ text : List Byte, asciiHexToBytes text = none ↔ text.length % 2 = 1 ∨ ∃ c ∈ text, hexVal c = none) ∧
  (∀ text out : List Byte, asciiHexToBytes text = some out →
    out.length = text.length / 2 ∧
    ∀ j (h : j < out.length), ∃ hi lo, (text[2 * j]?).bind hexVal = some hi ∧
      (text[2 * j + 1]?).bind hexVal = some lo ∧ (out[j]).toNat = hi.toNat * 16 + lo.toNat)

/-! ### The Address Resolver -/

/-- R91, R92, R93: an address string parses exactly when it is one of the six letters followed by one or more digits of
the area's base whose value is at most 65535, and then to that area and value; every failure is `InvalidAddress`. -/
def Obligations.ParseAddressAcceptsExactly : Prop :=
  (∀ (addr : List Byte) (a : Area) (o : UnitAddr), parseAddress addr = .ok (a, o) ↔
    ∃ letter digits, addr = letter :: digits ∧
      letter.toNat = (match a with | .D => 0x44 | .M => 0x4D | .X => 0x58 | .Y => 0x59 | .S => 0x53 | .T => 0x54) ∧
      digits ≠ [] ∧
      (∀ c ∈ digits, 0x30 ≤ c.toNat ∧
        c.toNat < 0x30 + (match a with | .X => 8 | .Y => 8 | .D => 10 | .M => 10 | .S => 10 | .T => 10)) ∧
      digits.foldl (fun v c =>
        v * (match a with | .X => 8 | .Y => 8 | .D => 10 | .M => 10 | .S => 10 | .T => 10) + (c.toNat - 0x30)) 0
        = o.toNat) ∧
  (∀ addr e, parseAddress addr = .error e → e = .invalidAddress)

/-- R93: leading zeros have no effect. -/
def Obligations.LeadingZerosHaveNoEffect : Prop :=
  ∀ (letter : Byte) (zeros digits : List Byte), digits ≠ [] → (∀ z ∈ zeros, z = 0x30#8) →
    parseAddress (letter :: (zeros ++ digits)) = parseAddress (letter :: digits)

/-- R96 to R101: the byte-operation unit address of every area and offset; D offsets from 30720 are `InvalidAddress`
and nothing else fails. -/
def Obligations.ByteOperationAddresses : Prop :=
  ∀ (st : Straps) (a : Area) (o : UnitAddr),
    (∀ u : UnitAddr, resolve st a o true = .ok u ↔
      (a = .D ∧ o.toNat < 30720 ∧ u.toNat = o.toNat * 2 + 0x1000) ∨
      (a = .M ∧ u.toNat = o.toNat / 8 + 0x0100) ∨ (a = .X ∧ u.toNat = o.toNat / 8 + 0x0080) ∨
      (a = .Y ∧ u.toNat = o.toNat / 8 + 0x00A0) ∨ (a = .S ∧ u.toNat = o.toNat / 8) ∨
      (a = .T ∧ u.toNat = o.toNat / 8 + 0x00C0)) ∧
    (∀ e, resolve st a o true = .error e ↔ a = .D ∧ 30720 ≤ o.toNat ∧ e = .invalidAddress)

/-- R102 to R107: the bit-operation unit address of every area and offset, for both values of `Y_BIT_BASE` and of
`T_BIT_EN`; areas X and D, and T without the strap, are `UnsupportedOperation`; a result above 0xFFFF is
`InvalidAddress`. -/
def Obligations.BitOperationAddresses : Prop :=
  ∀ (st : Straps) (a : Area) (o : UnitAddr),
    (∀ u : UnitAddr, resolve st a o false = .ok u ↔
      (a = .M ∧ o.toNat < 8000 ∧ u.toNat = o.toNat + 0x0800) ∨
      (a = .M ∧ 8000 ≤ o.toNat ∧ o.toNat < 61696 ∧ u.toNat = o.toNat + 0x0F00) ∨
      (a = .S ∧ u = o) ∨
      (a = .Y ∧ st.yBase0400 = false ∧ o.toNat < 64256 ∧ u.toNat = o.toNat + 0x0500) ∨
      (a = .Y ∧ st.yBase0400 = true ∧ o.toNat < 64512 ∧ u.toNat = o.toNat + 0x0400) ∨
      (a = .T ∧ st.tBitEn = true ∧ o.toNat < 64000 ∧ u.toNat = o.toNat + 0x0600)) ∧
    (resolve st a o false = .error .unsupportedOperation ↔ a = .X ∨ a = .D ∨ (a = .T ∧ st.tBitEn = false)) ∧
    (resolve st a o false = .error .invalidAddress ↔
      (a = .M ∧ 61696 ≤ o.toNat) ∨ (a = .Y ∧ st.yBase0400 = false ∧ 64256 ≤ o.toNat) ∨
      (a = .Y ∧ st.yBase0400 = true ∧ 64512 ≤ o.toNat) ∨ (a = .T ∧ st.tBitEn = true ∧ 64000 ≤ o.toNat))

/-- R102: the bit-operation mapping of area M is as written, resolves up to offset 61695, is injective and leaves out
0x2740 to 0x2E3F. -/
def Obligations.MRelayBitAddressesAreInjective : Prop :=
  ∀ (st : Straps) (o : UnitAddr),
    (61696 ≤ o.toNat → resolve st .M o false = .error .invalidAddress) ∧
    (o.toNat < 61696 → ∃ u : UnitAddr, resolve st .M o false = .ok u ∧
      u.toNat = (if 8000 ≤ o.toNat then o.toNat + 0x0F00 else o.toNat + 0x0800) ∧
      (u.toNat < 0x2740 ∨ 0x2E40 ≤ u.toNat) ∧
      ∀ o' : UnitAddr, resolve st .M o' false = .ok u → o' = o)

/-! ### Host commands -/

/-- RD_BIT, RD_BYTE, RD_U16, RD_U32, RD_F32 with an address that resolves: the working registers, the READ frame in
`TXBUF` and the expected count (R160, R19, R68). The equality says more than those rules, by the model's own choice: the
elements of `TXBUF` after the frame keep their content (notes/assumptions/15.md, DESIGN CHOICE), and the step ends in
`Idle` with the mark `frameReady` (notes/assumptions/12.md, DESIGN CHOICE). -/
def Obligations.ReadCommandsBuildTheirFrame : Prop :=
  ∀ (addr : List Byte) (s : State) (a : Area) (o u : UnitAddr),
    parseAddress addr = .ok (a, o) → resolve s.config a o true = .ok u →
    ∀ p ∈ [(Instr.rdBit addr, 1), (Instr.rdByte addr, 1), (Instr.rdU16 addr, 2), (Instr.rdU32 addr, 4),
        (Instr.rdF32 addr, 4)],
      exec p.1 s = .next
        (({ s.parsedAs a o with len := BitVec.ofNat 8 p.2 } : State).builtAs u (specReadFrame u p.2) (2 * p.2 + 4))

/-- WR_BYTE, WR_U16, WR_U32, WR_F32 with an address that resolves: the working registers, the WRITE frame with the low
bytes of the value in the order of `DATA_LSB_FIRST`, and the expected count (R170, R13, R49, R69, R19). The equality says
more than those rules, by the model's own choice: the elements of `TXBUF` after the frame keep their content
(notes/assumptions/15.md, DESIGN CHOICE), and the step ends in `Idle` with the mark `frameReady`
(notes/assumptions/12.md, DESIGN CHOICE). -/
def Obligations.ByteWriteCommandsBuildTheirFrame : Prop :=
  ∀ (addr : List Byte) (w : Word) (s : State) (a : Area) (o u : UnitAddr),
    parseAddress addr = .ok (a, o) → resolve s.config a o true = .ok u →
    ∀ p ∈ [(Instr.wrByte addr w, [w.extractLsb' 0 8]),
        (Instr.wrU16 addr w, [w.extractLsb' 0 8, w.extractLsb' 8 8]),
        (Instr.wrU32 addr w, [w.extractLsb' 0 8, w.extractLsb' 8 8, w.extractLsb' 16 8, w.extractLsb' 24 8]),
        (Instr.wrF32 addr w, [w.extractLsb' 0 8, w.extractLsb' 8 8, w.extractLsb' 16 8, w.extractLsb' 24 8])],
      exec p.1 s = .next
        (({ s.parsedAs a o with len := BitVec.ofNat 8 p.2.length } : State).builtAs u
          (specWriteFrame u p.2.length (if s.config.dataLsbFirst then p.2 else p.2.reverse)) 1)

/-- WR_BIT with an address that resolves: SET when bit 0 of the value is 1 and RESET otherwise, whatever the upper bits;
`LEN` is not written (R171, R17, R70). The equality says more than those rules, by the model's own choice: the elements of
`TXBUF` after the frame keep their content (notes/assumptions/15.md, DESIGN CHOICE), and the step ends in `Idle` with the
mark `frameReady` (notes/assumptions/12.md, DESIGN CHOICE). -/
def Obligations.BitWriteBuildsSetOrReset : Prop :=
  ∀ (addr : List Byte) (w : Word) (s : State) (a : Area) (o u : UnitAddr),
    parseAddress addr = .ok (a, o) → resolve s.config a o false = .ok u →
    exec (.wrBit addr w) s = .next ((s.parsedAs a o).builtAs u (specBitFrame u (w.toNat % 2 == 1)) 1)

/-- The local faults of the nine byte-operation commands: a string that does not parse, and a D offset whose unit
address is above 0xFFFF, end the command with `InvalidAddress` and touch no channel (R160, R170, R181, R186, R188). R186 leaves open whether
`TXBUF` was touched; that the equality keeps it, with `UADDR`, `LEN` and `EXPECT_N`, is the model's choice
(notes/assumptions/22.md, DEDUCED). -/
def Obligations.ByteOperationLocalFaults : Prop :=
  ∀ (addr : List Byte) (w : Word) (s : State),
    ∀ i ∈ [Instr.rdBit addr, Instr.rdByte addr, Instr.rdU16 addr, Instr.rdU32 addr, Instr.rdF32 addr,
        Instr.wrByte addr w, Instr.wrU16 addr w, Instr.wrU32 addr w, Instr.wrF32 addr w],
      (∀ e, parseAddress addr = .error e → exec i s = .next (s.faultedWith .invalidAddress)) ∧
      (∀ o : UnitAddr, parseAddress addr = .ok (.D, o) → 30720 ≤ o.toNat →
        exec i s = .next ((s.parsedAs .D o).faultedWith .invalidAddress))

/-- The local faults of WR_BIT in the order of R188: bad address text first, then an area without a bit formula, then a
unit address above 0xFFFF (R171, R181, R182, R186). R186 leaves open whether `TXBUF` was touched; that the equality keeps
it, with `UADDR` and `EXPECT_N`, is the model's choice (notes/assumptions/22.md, DEDUCED). -/
def Obligations.BitWriteLocalFaults : Prop :=
  ∀ (addr : List Byte) (w : Word) (s : State),
    (∀ e, parseAddress addr = .error e → exec (.wrBit addr w) s = .next (s.faultedWith .invalidAddress)) ∧
    (∀ (a : Area) (o : UnitAddr), parseAddress addr = .ok (a, o) →
      ((a = .X ∨ a = .D ∨ (a = .T ∧ s.config.tBitEn = false)) →
        exec (.wrBit addr w) s = .next ((s.parsedAs a o).faultedWith .unsupportedOperation)) ∧
      (((a = .M ∧ 61696 ≤ o.toNat) ∨ (a = .Y ∧ 65536 ≤ o.toNat + (if s.config.yBase0400 then 0x0400 else 0x0500)) ∨
          (a = .T ∧ s.config.tBitEn = true ∧ 64000 ≤ o.toNat)) →
        exec (.wrBit addr w) s = .next ((s.parsedAs a o).faultedWith .invalidAddress)))

/-- Each reserved opcode, whatever its operands, ends with `UnsupportedOperation`, changes no working register and
touches no channel; a waiting command with one is accepted by a free engine and completes in the step after (R63, R182). R186 leaves open
whether `TXBUF` was touched; that the first clause's equality keeps it, with the rest of the state, is the model's choice
(notes/assumptions/22.md, DEDUCED). -/
def Obligations.ReservedOpcodesEndUnsupported : Prop :=
  (∀ s : State, ∀ i ∈ [Instr.reserved0101, Instr.reserved0110, Instr.reserved0111, Instr.reserved1101,
      Instr.reserved1110, Instr.reserved1111], exec i s = .next (s.faultedWith .unsupportedOperation)) ∧
  (∀ (s : State) (c : Command) (rest : List Command),
    c.op ∈ [0b0101#4, 0b0110#4, 0b0111#4, 0b1101#4, 0b1110#4, 0b1111#4] →
    s.schedule = [] → s.lock = false → s.tstate = .idle → s.frameReady = false → s.waiting = c :: rest →
    ∃ m t : State, step s = .next m ∧ m.lock = true ∧ m.waiting = rest ∧ step m = .next t ∧
      t.lock = false ∧ t.tstate = .idle ∧ t.txlog = s.txlog ∧ t.rxq = s.rxq ∧ t.rdata = s.rdata ∧
      t.status = { busy := false, done := true, ackOk := false, err := .unsupportedOperation } ∧
      t.records = s.records ++ [{ req := c.req, err := .unsupportedOperation, ackOk := false, rdata := s.rdata }])

/-- Only WR_BIT and the reserved opcodes can raise `UnsupportedOperation` (R182). -/
def Obligations.OnlyBitWritesAndReservedAreUnsupported : Prop :=
  ∀ (i : Instr) (s t : State) (r : Completion), exec i s = .next t → t.records = s.records ++ [r] →
    r.err = .unsupportedOperation →
    (∃ addr w, i = .wrBit addr w) ∨
    i ∈ [Instr.reserved0101, Instr.reserved0110, Instr.reserved0111, Instr.reserved1101, Instr.reserved1110,
      Instr.reserved1111]

/-! ### Request frames and responses -/

/-- Each request frame is written to the channel in one append to `TXLOG` and `TSTATE` becomes `Sent` (R131, R197), byte
for byte as R68, R69, R70 lay it out; nothing else changes but the model's own mark `frameReady`, that the frame is still to
be sent (notes/assumptions/12.md, DESIGN CHOICE). -/
def Obligations.RequestFramesAreWritten : Prop :=
  ∀ (s : State) (u : UnitAddr) (d0 d1 d2 d3 : Byte),
    ∀ p ∈ [(Instr.read1 u, specReadFrame u 1), (Instr.read2 u, specReadFrame u 2), (Instr.read4 u, specReadFrame u 4),
        (Instr.write1 u d0, specWriteFrame u 1 [d0]), (Instr.write2 u d0 d1, specWriteFrame u 2 [d0, d1]),
        (Instr.write4 u d0 d1 d2 d3, specWriteFrame u 4 [d0, d1, d2, d3]),
        (Instr.setBit u, specBitFrame u true), (Instr.resetBit u, specBitFrame u false)],
      encode p.1 = .request p.2 ∧
      exec p.1 s = .next { s with txlog := s.txlog ++ p.2, tstate := .sent, frameReady := false }

/-- R77: the lengths of the frames and responses, shape by shape: what the builders write, and every byte sequence that
decodes to a request or a response, has the length of its shape in the table of R77. -/
def Obligations.FrameLengths : Prop :=
  ∀ (u : UnitAddr) (d0 d1 d2 d3 : Byte),
    (∀ n ∈ [1, 2, 4], (buildRead u n).length = 11) ∧
    (buildWrite u 1 [d0]).length = 13 ∧ (buildWrite u 2 [d0, d1]).length = 15 ∧
    (buildWrite u 4 [d0, d1, d2, d3]).length = 19 ∧ (∀ b, (buildBit u b).length = 9) ∧
    (∀ bytes i, decodeRequest bytes = .ok i →
      bytes.length ∈ [9, 11, 13, 15, 19] ∧ wireLength i = some bytes.length) ∧
    (∀ bytes i, decodeResponse bytes = .ok i →
      bytes.length ∈ [1, 6, 8, 12] ∧ wireLength i = some bytes.length)

/-- R151: every acknowledgement byte completes the command with `ERR = OK`; `ACK_OK` is 1 for 0x06 and 0 for each other
value; `RDATA` is unchanged. -/
def Obligations.AcknowledgementCompletes : Prop :=
  ∀ (s : State) (k : Byte), exec (.ack k) s = .next (s.completedWith .ok (k.toNat == 0x06) s.rdata)

/-- A well-formed read response delivers its value, zero-extended, in the byte order of `DATA_LSB_FIRST`; after RD_BIT
the value is bit `BITSEL` of the byte (R152 to R158, R161 to R165, R187). -/
def Obligations.WellFormedReadResponsesDeliver : Prop :=
  ∀ (s : State) (b0 b1 b2 b3 x y : Byte),
    ([x, y] = sumDigits (byteDigits b0 ++ [0x03#8]) →
      exec (.rdresp1 (hexChar (b0.extractLsb' 4 4)) (hexChar (b0.extractLsb' 0 4)) x y) s = .next
        (s.completedWith .ok false
          (if s.cmdOp = 0b0000#4 then (if b0.getLsbD s.bitsel.toNat then 1#32 else 0#32) else b0.setWidth 32))) ∧
    ([x, y] = sumDigits (byteDigits b0 ++ byteDigits b1 ++ [0x03#8]) →
      exec (.rdresp2 (hexChar (b0.extractLsb' 4 4)) (hexChar (b0.extractLsb' 0 4)) (hexChar (b1.extractLsb' 4 4))
          (hexChar (b1.extractLsb' 0 4)) x y) s = .next
        (s.completedWith .ok false
          (if s.config.dataLsbFirst then (b1 ++ b0).setWidth 32 else (b0 ++ b1).setWidth 32))) ∧
    ([x, y] = sumDigits (byteDigits b0 ++ byteDigits b1 ++ byteDigits b2 ++ byteDigits b3 ++ [0x03#8]) →
      exec (.rdresp4 (hexChar (b0.extractLsb' 4 4)) (hexChar (b0.extractLsb' 0 4)) (hexChar (b1.extractLsb' 4 4))
          (hexChar (b1.extractLsb' 0 4)) (hexChar (b2.extractLsb' 4 4)) (hexChar (b2.extractLsb' 0 4))
          (hexChar (b3.extractLsb' 4 4)) (hexChar (b3.extractLsb' 0 4)) x y) s = .next
        (s.completedWith .ok false
          (if s.config.dataLsbFirst then b3 ++ b2 ++ b1 ++ b0 else b0 ++ b1 ++ b2 ++ b3)))

/-- A read response with a data character that is no uppercase hex digit, or whose checksum does not match, ends the
command with `InvalidFrame`; `RDATA` keeps its value (R155, R156, R159, R186). -/
def Obligations.MalformedReadResponsesFault : Prop :=
  ∀ (s : State) (c0 c1 c2 c3 c4 c5 c6 c7 x y : Byte),
    (([x, y] ≠ sumDigits [c0, c1, 0x03#8] ∨ ∃ c ∈ [c0, c1], hexVal c = none) →
      exec (.rdresp1 c0 c1 x y) s = .next (s.faultedWith .invalidFrame)) ∧
    (([x, y] ≠ sumDigits [c0, c1, c2, c3, 0x03#8] ∨ ∃ c ∈ [c0, c1, c2, c3], hexVal c = none) →
      exec (.rdresp2 c0 c1 c2 c3 x y) s = .next (s.faultedWith .invalidFrame)) ∧
    (([x, y] ≠ sumDigits [c0, c1, c2, c3, c4, c5, c6, c7, 0x03#8] ∨
        ∃ c ∈ [c0, c1, c2, c3, c4, c5, c6, c7], hexVal c = none) →
      exec (.rdresp4 c0 c1 c2 c3 c4 c5 c6 c7 x y) s = .next (s.faultedWith .invalidFrame))

/-- The engine's step in `Complete` after a READ is `InterpretRead` of the bytes read, whatever they are: decoding and
meaning together do the four checks of R153 to R156 and no other (R137, R150, R152, R157, R158). -/
def Obligations.ResponseStepIsInterpretRead : Prop :=
  ∀ (s : State) (n : Nat), n ∈ [1, 2, 4] → s.schedule = [] → s.lock = true → s.tstate = .complete →
    s.expectN.toNat = 2 * n + 4 → s.rxGot = 2 * n + 4 → s.rxBuf.length = 12 →
    step s = .next
      (match interpretRead s.config.dataLsbFirst n (s.rxBuf.take (2 * n + 4)) with
        | none => s.faultedWith .invalidFrame
        | some v => s.completedWith .ok false
            (if n = 1 ∧ s.cmdOp = 0b0000#4 then (v >>> s.bitsel.toNat) &&& 1#32 else v))

/-! ### The engine's own transitions -/

/-- Acceptance: with the lock free and a well-formed command first in the grant order, one step takes the lock, sets
`BUSY`, clears `DONE` and loads the latch, and changes nothing else (R142, R11, R12, R190). -/
def Obligations.AcceptanceLoadsTheLatch : Prop :=
  ∀ (s : State) (c : Command) (rest : List Command), s.schedule = [] → s.lock = false → s.waiting = c :: rest →
    c.wellFormed = true →
    ∃ latch : List Byte, latch.take c.addr.length = c.addr ∧
      step s = .next { s with
        lock := true, status := { s.status with busy := true, done := false }
        cmdOp := c.op, cmdReq := c.req, cmdAddr := latch, cmdAddrLen := BitVec.ofNat 4 c.addr.length
        cmdWdata := c.wdata, waiting := rest } ∧
      (BitVec.ofNat 4 c.addr.length).toNat = c.addr.length

/-- While the lock is held no step but reset changes the latch, and none takes a command from the waiting ones (R11,
R142). -/
def Obligations.LatchIsStableWhileLocked : Prop :=
  ∀ s t : State, step s = .next t → s.lock = true →
    (s.schedule.head? ≠ some .reset →
      t.cmdOp = s.cmdOp ∧ t.cmdReq = s.cmdReq ∧ t.cmdAddr = s.cmdAddr ∧ t.cmdAddrLen = s.cmdAddrLen ∧
      t.cmdWdata = s.cmdWdata) ∧
    ∀ c ∈ s.waiting, c ∈ t.waiting

/-- `Sent → AwaitingLength`: the deadline is the clock plus `TIMEOUT`, exactly (R132). That no poll wait is in
progress is said in the model's own field `pollHold` (notes/assumptions/11.md, DEDUCED). -/
def Obligations.SentRecordsTheDeadline : Prop :=
  ∀ s : State, s.schedule = [] → s.lock = true → s.tstate = .sent →
    step s = .next { s with deadline := s.clock + s.timeout.toNat, tstate := .awaitingLength, pollHold := none }

/-- `AwaitingLength`: during a poll wait nothing happens; a poll looks at the available count first, then at the
deadline, strictly, and otherwise starts a wait of `POLL_INTERVAL` (R133 to R136), on a channel that keeps its contract
(R199). Three things are the model's: the two samples of a poll are one step (notes/assumptions/10.md, DEDUCED), the wait is
kept in `pollHold` (notes/assumptions/11.md, DEDUCED), and the elements of `RXBUF` after the bytes read keep their content,
their number being kept in `rxGot` (notes/assumptions/15.md and 13.md, DESIGN CHOICE). -/
def Obligations.PollTakesItsTransitionsInOrder : Prop :=
  ∀ s : State, s.schedule = [] → s.lock = true → s.tstate = .awaitingLength →
    (∀ d, s.pollHold = some d → s.clock < s.tPoll + d.toNat → step s = .next s) ∧
    ((∀ d, s.pollHold = some d → s.tPoll + d.toNat ≤ s.clock) →
      (s.expectN.toNat ≤ s.rxq.length → s.chReadLimit = none →
        step s = .next { s with
          rxBuf := s.rxq.take s.expectN.toNat ++ s.rxBuf.drop s.expectN.toNat, rxGot := s.expectN.toNat
          rxq := s.rxq.drop s.expectN.toNat, tstate := .complete, pollHold := none }) ∧
      (s.rxq.length < s.expectN.toNat → s.deadline < s.clock →
        step s = .next { s with tstate := .timedOut, pollHold := none }) ∧
      (s.rxq.length < s.expectN.toNat → s.clock ≤ s.deadline →
        step s = .next { s with tPoll := s.clock, pollHold := some s.pollInterval }))

/-- A poll after the deadline with too few bytes ends the command with `Timeout` in two steps: nothing is read from
`RXQ`, nothing is sent again, `RDATA` keeps its value (R135, R137, R139, R184). The end of the poll wait is said in the model's own field
`pollHold` (notes/assumptions/11.md, DEDUCED). -/
def Obligations.TimeoutLeavesTheChannelUnread : Prop :=
  ∀ s : State, s.schedule = [] → s.lock = true → s.tstate = .awaitingLength →
    (∀ d, s.pollHold = some d → s.tPoll + d.toNat ≤ s.clock) → s.rxq.length < s.expectN.toNat → s.deadline < s.clock →
    Host.Core.run Sys2Proof.core 2 s = .next (({ s with pollHold := none } : State).faultedWith .timeout)

/-- A channel that returns fewer bytes than asked for makes the command end with `InvalidFrame`: the bytes returned are
gone from `RXQ`, no second read is made, `RDATA` keeps its value (R141). R141 says that the bytes are dropped; where they lie
until then is the model's choice: the equality has them at the start of `RXBUF`, whose tail keeps its content
(notes/assumptions/15.md, DESIGN CHOICE), and speaks of the fields `chReadLimit` and `rxGot` (notes/assumptions/13.md,
DESIGN CHOICE) and `pollHold` (notes/assumptions/11.md, DEDUCED). -/
def Obligations.ShortReadEndsInvalidFrame : Prop :=
  ∀ (s : State) (k : Nat), s.schedule = [] → s.lock = true → s.tstate = .awaitingLength →
    (∀ d, s.pollHold = some d → s.tPoll + d.toNat ≤ s.clock) → s.expectN.toNat ≤ s.rxq.length →
    s.chReadLimit = some k → k < s.expectN.toNat →
    Host.Core.run Sys2Proof.core 2 s = .next
      (({ s with
          rxBuf := s.rxq.take k ++ s.rxBuf.drop k, rxGot := k, rxq := s.rxq.drop k, chReadLimit := none
          pollHold := none } : State).faultedWith .invalidFrame)

/-- With a stalled clock and bytes that never come, the engine polls for ever with the lock held: no number of steps
leaves `AwaitingLength` (R227). -/
def Obligations.StalledClockNeverReleases : Prop :=
  ∀ (s : State) (k : Nat), s.schedule = [] → s.lock = true → s.tstate = .awaitingLength →
    s.rxq.length < s.expectN.toNat → s.clock ≤ s.deadline →
    ∃ t, Host.Core.run Sys2Proof.core k s = .next t ∧ t.tstate = .awaitingLength ∧ t.lock = true ∧
      t.rxq = s.rxq ∧ t.txlog = s.txlog ∧ t.records = s.records

/-! ### The environment's moves -/

/-- The registers of requesters: a write of `TIMEOUT` or `POLL_INTERVAL` changes that register alone, so neither the
recorded deadline nor the wait in progress moves (R26, R27, R57, R222); a read changes nothing and yields the register,
`STATUS` and `CONFIG` bit by bit as R24 and R28 lay them out (R195). The list of the values read is the model's own
(notes/assumptions/18.md, DESIGN CHOICE). -/
def Obligations.RegisterAccesses : Prop :=
  ∀ (s : State) (rest : List Move) (v : Word) (r : HostReg),
    step { s with schedule := .writeTimeout v :: rest } = .next { s with schedule := rest, timeout := v } ∧
    step { s with schedule := .writePollInterval v :: rest } = .next { s with schedule := rest, pollInterval := v } ∧
    (∃ x : Word, step { s with schedule := .readReg r :: rest } =
        .next { s with schedule := rest, readLog := s.readLog ++ [(r, x)] } ∧
      (match r with
        | .status => x.toNat = s.status.busy.toNat + 2 * s.status.done.toNat + 4 * s.status.ackOk.toNat +
            8 * (match s.status.err with
              | .ok => 0 | .invalidAddress => 1 | .unsupportedOperation => 2 | .invalidFrame => 3 | .timeout => 4)
        | .rdata => x = s.rdata
        | .config => x.toNat = s.config.yBase0400.toNat + 2 * s.config.tBitEn.toNat + 4 * s.config.dataLsbFirst.toNat
        | .timeout => x = s.timeout
        | .pollInterval => x = s.pollInterval))

/-- Reset in a running system: the registers of R31 take their values, the straps, `RXQ`, `TXLOG`, the clock and what
the requesters hold stay, and no record is emitted for a command in flight (R210 to R212). -/
def Obligations.ResetLeavesTheEnvironment : Prop :=
  ∀ (s : State) (rest : List Move), ∃ t, step { s with schedule := .reset :: rest } = .next t ∧
    t.lock = false ∧ t.tstate = .idle ∧ statusBits t.status = 0x00#8 ∧ t.rdata = 0#32 ∧
    t.timeout = Config.timeoutReset ∧ t.pollInterval = 10#32 ∧ t.config = s.config ∧
    t.rxq = s.rxq ∧ t.txlog = s.txlog ∧ t.clock = s.clock ∧ t.waiting = s.waiting ∧ t.records = s.records ∧
    t.readLog = s.readLog ∧ t.schedule = rest

/-- Any waiting command may be the next one accepted: a submitted command can take every place among the waiting ones
(R144; the place is the model's device for the open grant order, notes/assumptions/14.md). A command that does not fit
the latch cannot be submitted (R12), and a requester with a command of its own waiting or in flight submits none (R201,
R216 (g)): such moves are no run of the system, and the model refuses them (notes/assumptions/21.md, DESIGN CHOICE, and
26.md, DEDUCED). -/
def Obligations.GrantOrderIsOpen : Prop :=
  ∀ (s : State) (c : Command) (rest : List Move),
    (c.wellFormed = true → (s.lock = true → c.req ≠ s.cmdReq) → (∀ w ∈ s.waiting, c.req ≠ w.req) →
      ∀ before after, s.waiting = before ++ after →
      step { s with schedule := .submit before.length c :: rest } =
        .next { s with schedule := rest, waiting := before ++ c :: after }) ∧
    (8 < c.addr.length → ∀ place, step { s with schedule := .submit place c :: rest } = .refused .commandNotSubmittable) ∧
    (c.wellFormed = true → ((s.lock = true ∧ c.req = s.cmdReq) ∨ ∃ w ∈ s.waiting, c.req = w.req) →
      ∀ place, step { s with schedule := .submit place c :: rest } = .refused .requesterBlocked)

/-! ### Whole-machine rules -/

/-- Every step keeps the invariant: `BUSY` equals `LOCK`, a free engine is idle, a built request is a frame, the buffers
keep their sizes, `EXPECT_N` is that of the latched opcode during a transaction, and no requester has two commands waiting or
in flight (R10, R19, R21, R23, R127, R201). -/
def Obligations.EveryStepKeepsTheInvariant : Prop :=
  ∀ s t : State, s.Inv → step s = .next t → t.Inv

/-- Reset: every register that R31 gives a value holds it; the OPEN values are those of the parameters of R4. -/
def Obligations.ResetValuesOfTheSpec : Prop :=
  State.reset.lock = false ∧ State.reset.tstate = .idle ∧ statusBits State.reset.status = 0x00#8 ∧
  State.reset.rdata = 0x00000000#32 ∧ State.reset.timeout = Config.timeoutReset ∧
  State.reset.pollInterval = 10#32 ∧
  configBits State.reset.config = (if Config.yBase0400 then 0b00000101#8 else 0b00000100#8)

/-- The state after reset meets the invariant. It rests on the model's choices for the registers R31 leaves unspecified
(notes/assumptions/3.md: the buffers have their sizes). -/
def Obligations.ResetMeetsTheInvariant : Prop := State.reset.Inv

/-- No step stops: from every state that meets the invariant, with commands that fit and of requesters that wait for their
completion records (R12, R201, R216 (g)), a step answers a next state; there is no instruction on which the machine faults or refuses (R180: a fault is a status with which a command ends). -/
def Obligations.NoStepStops : Prop :=
  ∀ s : State, s.Inv → s.submitsFit → s.submitterWaits → ∃ t, step s = .next t ∧ t.Inv ∧ t.submitsFit

/-- On a channel that keeps its contract, which it then keeps, only a read command can end with `InvalidFrame` (R183,
R170): every acknowledgement byte is legal. -/
def Obligations.OnlyReadsAreMalformed : Prop :=
  ∀ s t : State, s.Inv → s.readsWhole → step s = .next t →
    t.readsWhole ∧
    ∀ r : Completion, t.records = s.records ++ [r] → r.err = .invalidFrame → s.cmdOp.toNat < 8

/-- A transaction ends once the clock has passed the deadline and the poll wait: the next poll and the step after it
complete the command, with whatever status, and release the lock (R139, R227). -/
def Obligations.ClockPastDeadlineReleases : Prop :=
  ∀ (s : State) (d : Nat) (rest : List Move), s.lock = true → s.tstate = .awaitingLength →
    s.schedule = [.tick d, .engine, .engine] ++ rest → s.deadline < s.clock + d →
    (∀ h, s.pollHold = some h → s.tPoll + h.toNat ≤ s.clock + d) →
    ∃ t : State, Host.Core.run Sys2Proof.core 3 s = .next t ∧ t.lock = false ∧ t.tstate = .idle ∧
      t.status.busy = false ∧ t.status.done = true ∧ t.schedule = rest ∧
      t.records = s.records ++
        [{ req := s.cmdReq, err := t.status.err, ackOk := t.status.ackOk, rdata := t.rdata }]

/-- `CONFIG` never changes, in any step, reset included (R28). -/
def Obligations.ConfigNeverChanges : Prop :=
  ∀ s t : State, step s = .next t → t.config = s.config

/-- The clock moves in its own move alone, and by exactly what that move says; no other step, of the engine, of reset or of
anyone else, sets, resets or moves it, so it never runs backwards (R192, R212, R30). -/
def Obligations.ClockIsMonotonic : Prop :=
  ∀ s t : State, step s = .next t →
    (∀ d rest, s.schedule = .tick d :: rest → t.clock = s.clock + d) ∧
    ((∀ d, s.schedule.head? ≠ some (.tick d)) → t.clock = s.clock) ∧
    s.clock ≤ t.clock

/-- What a requester can see of results changes in completing steps only, and then all at once: exactly one record is
emitted, it says what `STATUS` and `RDATA` say, the lock is released in the same step, and a fault leaves `RDATA`
unchanged and `ACK_OK` clear (R143, R186, R187, R189). Every other step but reset either leaves the lock and all of `STATUS`
alone too or is an acceptance, which takes the free lock, sets `BUSY` and clears `DONE` and nothing else of `STATUS`: so the
lock is released, and `DONE` set, by a completing step only, and `DONE` is cleared at acceptance only (R139, R142, R190). -/
def Obligations.ResultsChangeOnlyAtCompletion : Prop :=
  ∀ s t : State, step s = .next t → s.schedule.head? ≠ some .reset →
    (t.records = s.records ∧ t.rdata = s.rdata ∧
      ((t.lock = s.lock ∧ t.status = s.status) ∨
       (s.lock = false ∧ t.lock = true ∧ t.status = { s.status with busy := true, done := false } ∧
        ∃ c, s.waiting = c :: t.waiting ∧ t.cmdReq = c.req))) ∨
    (s.lock = true ∧ t.lock = false ∧ t.tstate = .idle ∧ t.status.busy = false ∧ t.status.done = true ∧
      t.records = s.records ++
        [{ req := s.cmdReq, err := t.status.err, ackOk := t.status.ackOk, rdata := t.rdata }] ∧
      (t.status.err ≠ .ok → t.rdata = s.rdata ∧ t.status.ackOk = false))

/-- `RDATA` is written only by a read command that completes with `ERR = OK`: a transaction in `Complete` that waited for
the six or more bytes of a read response (R25, R19). -/
def Obligations.OnlyReadCompletionsWriteRdata : Prop :=
  ∀ s t : State, step s = .next t → s.schedule.head? ≠ some .reset → t.rdata ≠ s.rdata →
    s.lock = true ∧ s.tstate = .complete ∧ 6 ≤ s.expectN.toNat ∧ t.status.err = .ok ∧ t.status.ackOk = false

/-- Received bytes are never discarded: bytes that arrive are all put at the end of `RXQ`; the one channel read of a
transaction, under the lock and when enough bytes are there, takes what it takes from its start; every other step, reset
included, leaves it alone (R30, R134, R199, R212, R219). -/
def Obligations.ReceiveQueueIsNeverFlushed : Prop :=
  ∀ s t : State, step s = .next t →
    (∀ bytes rest, s.schedule = .arrive bytes :: rest → t.rxq = s.rxq ++ bytes) ∧
    ((∀ bytes, s.schedule.head? ≠ some (.arrive bytes)) →
      (t.rxq = s.rxq ∧ ¬(s.tstate = .awaitingLength ∧ t.tstate = .complete)) ∨
      (s.lock = true ∧ s.tstate = .awaitingLength ∧ s.expectN.toNat ≤ s.rxq.length ∧ t.tstate = .complete ∧
        t.rxq = s.rxq.drop (s.chReadCount s.expectN.toNat)))

/-- `TXLOG` grows by one whole request frame at a time, the one in `TXBUF`, in a step under the lock that goes from
`Idle` to `Sent`; every other step leaves it alone (R131, R145). -/
def Obligations.TransmitLogGrowsByWholeFrames : Prop :=
  ∀ s t : State, step s = .next t →
    t.txlog = s.txlog ∨
    (s.lock = true ∧ s.tstate = .idle ∧ s.frameReady = true ∧ t.tstate = .sent ∧
      isRequest (s.txBuf.take s.txLen.toNat) = true ∧ t.txlog = s.txlog ++ s.txBuf.take s.txLen.toNat)

/-- One in flight: once a frame is sent, nothing more is written to the channel before the lock has been released
(R55, R140). -/
def Obligations.NoSecondFrameBeforeRelease : Prop :=
  ∀ (k : Nat) (s t : State), s.Inv → s.tstate ≠ .idle → Host.Core.run Sys2Proof.core k s = .next t →
    t.txlog ≠ s.txlog →
    ∃ j m, j < k ∧ Host.Core.run Sys2Proof.core j s = .next m ∧ m.lock = false ∧ m.txlog = s.txlog

/-- No result depends on a register that R31 leaves unspecified: two machines with a free lock that agree on everything
R31 gives a value, and on the environment, agree on all of that after every run (R31, U15, R108). -/
def Obligations.UnspecifiedRegistersNeverMatter : Prop :=
  ∀ (k : Nat) (s t : State), s.Inv → t.Inv → s.lock = false → t.lock = false → s.specified = t.specified →
    match Host.Core.run Sys2Proof.core k s, Host.Core.run Sys2Proof.core k t with
    | .next s', .next t' => (s' : State).specified = (t' : State).specified
    | .refused r, .refused r' => r = r'
    | _, _ => False

/-! ### Whole commands -/

/-- A read command from its acceptance to its completion: its READ frame goes out, the controller's well-formed answer
arrives, and the command completes with the value of its bytes (RD_BIT: with the addressed bit); surplus bytes stay in
`RXQ` (R160 to R165, R131 to R137, R152 to R158, R187, R218). -/
def Obligations.ReadCommandRunsToItsValue : Prop :=
  ∀ (s : State) (p : Nat × Nat) (a : Area) (o u : UnitAddr) (bytes surplus : List Byte) (rest : List Move),
    p ∈ [(0, 1), (1, 1), (2, 2), (3, 4), (4, 4)] → s.cmdOp.toNat = p.1 → bytes.length = p.2 →
    s.lock = true → s.tstate = .idle → s.frameReady = false → s.chReadLimit = none → s.rxq = [] →
    parseAddress s.latchedAddr = .ok (a, o) → resolve s.config a o true = .ok u →
    s.schedule = [.engine, .engine, .engine,
      .arrive ([0x02#8] ++ bytes.flatMap byteDigits ++ [0x03#8] ++ sumDigits (bytes.flatMap byteDigits ++ [0x03#8]) ++
        surplus), .engine, .engine] ++ rest →
    ∃ t : State, Host.Core.run Sys2Proof.core 6 s = .next t ∧
      t.txlog = s.txlog ++ specReadFrame u p.2 ∧ t.rxq = surplus ∧
      t.rdata.toNat = (if p.1 = 0 then (wireValue s.config.dataLsbFirst bytes / 2 ^ (o.toNat % 8)) % 2
        else wireValue s.config.dataLsbFirst bytes) ∧
      t.status = { busy := false, done := true, ackOk := false, err := .ok } ∧
      t.records = s.records ++ [{ req := s.cmdReq, err := .ok, ackOk := false, rdata := t.rdata }] ∧
      t.lock = false ∧ t.tstate = .idle ∧ t.schedule = rest

/-- A byte-operation write command from its acceptance to its completion: its WRITE frame goes out, and the first byte
of what lay in `RXQ` and what arrives is taken as the acknowledgement, stale or not; the rest stays (R170, R172 to R175,
R151, R187, R217, R218). -/
def Obligations.WriteCommandRunsToItsAcknowledgement : Prop :=
  ∀ (s : State) (p : Nat × Config.ValueWidth) (a : Area) (o u : UnitAddr) (arriving left : List Byte) (k : Byte)
    (rest : List Move), p ∈ [(9, .one), (10, .two), (11, .four), (12, .four)] → s.cmdOp.toNat = p.1 →
    s.lock = true → s.tstate = .idle → s.frameReady = false → s.chReadLimit = none →
    s.rxq ++ arriving = k :: left →
    parseAddress s.latchedAddr = .ok (a, o) → resolve s.config a o true = .ok u →
    s.schedule = [.engine, .engine, .engine, .arrive arriving, .engine, .engine] ++ rest →
    ∃ t : State, Host.Core.run Sys2Proof.core 6 s = .next t ∧
      t.txlog = s.txlog ++ specWriteFrame u p.2.bytes (wireBytes s.config.dataLsbFirst s.cmdWdata p.2) ∧
      t.rxq = left ∧
      t.rdata = s.rdata ∧
      t.status = { busy := false, done := true, ackOk := decide (k = 0x06#8), err := .ok } ∧
      t.records = s.records ++ [{ req := s.cmdReq, err := .ok, ackOk := decide (k = 0x06#8), rdata := s.rdata }] ∧
      t.lock = false ∧ t.tstate = .idle ∧ t.schedule = rest

/-- WR_BIT from its acceptance to its completion: a SET or RESET frame goes out and the first byte available is taken as
the acknowledgement (R171, R151, R187, R217). -/
def Obligations.BitWriteRunsToItsAcknowledgement : Prop :=
  ∀ (s : State) (a : Area) (o u : UnitAddr) (arriving left : List Byte) (k : Byte) (rest : List Move),
    s.cmdOp = 0b1000#4 → s.lock = true → s.tstate = .idle → s.frameReady = false → s.chReadLimit = none →
    s.rxq ++ arriving = k :: left →
    parseAddress s.latchedAddr = .ok (a, o) → resolve s.config a o false = .ok u →
    s.schedule = [.engine, .engine, .engine, .arrive arriving, .engine, .engine] ++ rest →
    ∃ t : State, Host.Core.run Sys2Proof.core 6 s = .next t ∧
      t.txlog = s.txlog ++ specBitFrame u (s.cmdWdata.getLsbD 0) ∧ t.rxq = left ∧ t.rdata = s.rdata ∧
      t.status = { busy := false, done := true, ackOk := decide (k = 0x06#8), err := .ok } ∧
      t.records = s.records ++ [{ req := s.cmdReq, err := .ok, ackOk := decide (k = 0x06#8), rdata := s.rdata }] ∧
      t.lock = false ∧ t.tstate = .idle ∧ t.schedule = rest

/-! ### The moves of the engine, of the clock and of the controller -/

/-- A step of the engine is the same whatever moves come after it: with `Move.engine` first in the schedule it does to the
state what it does with an empty schedule, and leaves the rest of the schedule. So what the statements say of the engine's
step for an empty schedule, they say of every step of the engine (R6; the schedule is the model's device,
notes/assumptions/2.md). -/
def Obligations.EngineStepIgnoresTheSchedule : Prop :=
  ∀ (s : State) (rest : List Move),
    match step { s with schedule := [] } with
    | .next t => t.schedule = [] ∧ step { s with schedule := .engine :: rest } = .next { t with schedule := rest }
    | .fault f => step { s with schedule := .engine :: rest } = .fault f
    | .refused r => step { s with schedule := .engine :: rest } = .refused r

/-- The clock's move touches nothing but `Now()`, the controller's nothing but `RXQ`, at whose end its bytes arrive in order
(R30, R192, R198; that the move is also taken off the schedule is the model's device, notes/assumptions/2.md). -/
def Obligations.ClockAndControllerTouchNothingElse : Prop :=
  ∀ (s : State) (rest : List Move) (d : Nat) (bytes : List Byte),
    step { s with schedule := .tick d :: rest } = .next { s with schedule := rest, clock := s.clock + d } ∧
    step { s with schedule := .arrive bytes :: rest } = .next { s with schedule := rest, rxq := s.rxq ++ bytes }
end

