-- ==== Sys2Proof/Laws/State.lean ====
section
/-! SUPPORT. For each update of the state, what each field holds after it: one lemma per field, true by definition, so
that no later proof unfolds a record update. The endings `raise`, `completeRead`, `completeWrite` rewrite to `finish`. -/

namespace Sys2Proof.Machine

/-! ### The endings of a command -/

@[simp] theorem State.raise_eq_finish (s : State) (e : Err) : s.raise e = s.finish e false s.rdata := rfl
@[simp] theorem State.completeRead_eq_finish (s : State) (v : Word) : s.completeRead v = s.finish .ok false v := rfl
@[simp] theorem State.completeWrite_eq_finish (s : State) (a : Bool) : s.completeWrite a = s.finish .ok a s.rdata := rfl
@[simp] theorem Status.accepted_busy (st : Status) : st.accepted.busy = true := rfl
@[simp] theorem Status.accepted_done (st : Status) : st.accepted.done = false := rfl
@[simp] theorem Status.accepted_ackOk (st : Status) : st.accepted.ackOk = st.ackOk := rfl
@[simp] theorem Status.accepted_err (st : Status) : st.accepted.err = st.err := rfl
@[simp] theorem Status.completed_busy (e : Err) (a : Bool) : (Status.completed e a).busy = false := rfl
@[simp] theorem Status.completed_done (e : Err) (a : Bool) : (Status.completed e a).done = true := rfl
@[simp] theorem Status.completed_ackOk (e : Err) (a : Bool) : (Status.completed e a).ackOk = a := rfl
@[simp] theorem Status.completed_err (e : Err) (a : Bool) : (Status.completed e a).err = e := rfl

/-! ### The completing step (R143). -/

@[simp] theorem State.finish_cmdOp (s : State) (e : Err) (a : Bool) (v : Word) : (s.finish e a v).cmdOp = s.cmdOp := rfl
@[simp] theorem State.finish_cmdReq (s : State) (e : Err) (a : Bool) (v : Word) : (s.finish e a v).cmdReq = s.cmdReq := rfl
@[simp] theorem State.finish_cmdAddr (s : State) (e : Err) (a : Bool) (v : Word) : (s.finish e a v).cmdAddr = s.cmdAddr := rfl
@[simp] theorem State.finish_cmdAddrLen (s : State) (e : Err) (a : Bool) (v : Word) : (s.finish e a v).cmdAddrLen = s.cmdAddrLen := rfl
@[simp] theorem State.finish_cmdWdata (s : State) (e : Err) (a : Bool) (v : Word) : (s.finish e a v).cmdWdata = s.cmdWdata := rfl
@[simp] theorem State.finish_area (s : State) (e : Err) (a : Bool) (v : Word) : (s.finish e a v).area = s.area := rfl
@[simp] theorem State.finish_offset (s : State) (e : Err) (a : Bool) (v : Word) : (s.finish e a v).offset = s.offset := rfl
@[simp] theorem State.finish_uaddr (s : State) (e : Err) (a : Bool) (v : Word) : (s.finish e a v).uaddr = s.uaddr := rfl
@[simp] theorem State.finish_len (s : State) (e : Err) (a : Bool) (v : Word) : (s.finish e a v).len = s.len := rfl
@[simp] theorem State.finish_bitsel (s : State) (e : Err) (a : Bool) (v : Word) : (s.finish e a v).bitsel = s.bitsel := rfl
@[simp] theorem State.finish_expectN (s : State) (e : Err) (a : Bool) (v : Word) : (s.finish e a v).expectN = s.expectN := rfl
@[simp] theorem State.finish_txBuf (s : State) (e : Err) (a : Bool) (v : Word) : (s.finish e a v).txBuf = s.txBuf := rfl
@[simp] theorem State.finish_txLen (s : State) (e : Err) (a : Bool) (v : Word) : (s.finish e a v).txLen = s.txLen := rfl
@[simp] theorem State.finish_rxBuf (s : State) (e : Err) (a : Bool) (v : Word) : (s.finish e a v).rxBuf = s.rxBuf := rfl
@[simp] theorem State.finish_tstate (s : State) (e : Err) (a : Bool) (v : Word) : (s.finish e a v).tstate = .idle := rfl
@[simp] theorem State.finish_deadline (s : State) (e : Err) (a : Bool) (v : Word) : (s.finish e a v).deadline = s.deadline := rfl
@[simp] theorem State.finish_tPoll (s : State) (e : Err) (a : Bool) (v : Word) : (s.finish e a v).tPoll = s.tPoll := rfl
@[simp] theorem State.finish_lock (s : State) (e : Err) (a : Bool) (v : Word) : (s.finish e a v).lock = false := rfl
@[simp] theorem State.finish_status (s : State) (e : Err) (a : Bool) (v : Word) : (s.finish e a v).status = Status.completed e a := rfl
@[simp] theorem State.finish_rdata (s : State) (e : Err) (a : Bool) (v : Word) : (s.finish e a v).rdata = v := rfl
@[simp] theorem State.finish_timeout (s : State) (e : Err) (a : Bool) (v : Word) : (s.finish e a v).timeout = s.timeout := rfl
@[simp] theorem State.finish_pollInterval (s : State) (e : Err) (a : Bool) (v : Word) : (s.finish e a v).pollInterval = s.pollInterval := rfl
@[simp] theorem State.finish_config (s : State) (e : Err) (a : Bool) (v : Word) : (s.finish e a v).config = s.config := rfl
@[simp] theorem State.finish_frameReady (s : State) (e : Err) (a : Bool) (v : Word) : (s.finish e a v).frameReady = s.frameReady := rfl
@[simp] theorem State.finish_pollHold (s : State) (e : Err) (a : Bool) (v : Word) : (s.finish e a v).pollHold = s.pollHold := rfl
@[simp] theorem State.finish_rxGot (s : State) (e : Err) (a : Bool) (v : Word) : (s.finish e a v).rxGot = s.rxGot := rfl
@[simp] theorem State.finish_rxq (s : State) (e : Err) (a : Bool) (v : Word) : (s.finish e a v).rxq = s.rxq := rfl
@[simp] theorem State.finish_txlog (s : State) (e : Err) (a : Bool) (v : Word) : (s.finish e a v).txlog = s.txlog := rfl
@[simp] theorem State.finish_chReadLimit (s : State) (e : Err) (a : Bool) (v : Word) : (s.finish e a v).chReadLimit = s.chReadLimit := rfl
@[simp] theorem State.finish_clock (s : State) (e : Err) (a : Bool) (v : Word) : (s.finish e a v).clock = s.clock := rfl
@[simp] theorem State.finish_waiting (s : State) (e : Err) (a : Bool) (v : Word) : (s.finish e a v).waiting = s.waiting := rfl
@[simp] theorem State.finish_records (s : State) (e : Err) (a : Bool) (v : Word) : (s.finish e a v).records = s.records ++ [{ req := s.cmdReq, err := e, ackOk := a, rdata := v }] := rfl
@[simp] theorem State.finish_readLog (s : State) (e : Err) (a : Bool) (v : Word) : (s.finish e a v).readLog = s.readLog := rfl
@[simp] theorem State.finish_schedule (s : State) (e : Err) (a : Bool) (v : Word) : (s.finish e a v).schedule = s.schedule := rfl

/-! ### Acceptance (R142). -/

@[simp] theorem State.accept_cmdOp (s : State) (c : Command) (rest : List Command) : (s.accept c rest).cmdOp = c.op := rfl
@[simp] theorem State.accept_cmdReq (s : State) (c : Command) (rest : List Command) : (s.accept c rest).cmdReq = c.req := rfl
@[simp] theorem State.accept_cmdAddr (s : State) (c : Command) (rest : List Command) : (s.accept c rest).cmdAddr = overlay c.addr s.cmdAddr := rfl
@[simp] theorem State.accept_cmdAddrLen (s : State) (c : Command) (rest : List Command) : (s.accept c rest).cmdAddrLen = BitVec.ofNat 4 c.addr.length := rfl
@[simp] theorem State.accept_cmdWdata (s : State) (c : Command) (rest : List Command) : (s.accept c rest).cmdWdata = c.wdata := rfl
@[simp] theorem State.accept_area (s : State) (c : Command) (rest : List Command) : (s.accept c rest).area = s.area := rfl
@[simp] theorem State.accept_offset (s : State) (c : Command) (rest : List Command) : (s.accept c rest).offset = s.offset := rfl
@[simp] theorem State.accept_uaddr (s : State) (c : Command) (rest : List Command) : (s.accept c rest).uaddr = s.uaddr := rfl
@[simp] theorem State.accept_len (s : State) (c : Command) (rest : List Command) : (s.accept c rest).len = s.len := rfl
@[simp] theorem State.accept_bitsel (s : State) (c : Command) (rest : List Command) : (s.accept c rest).bitsel = s.bitsel := rfl
@[simp] theorem State.accept_expectN (s : State) (c : Command) (rest : List Command) : (s.accept c rest).expectN = s.expectN := rfl
@[simp] theorem State.accept_txBuf (s : State) (c : Command) (rest : List Command) : (s.accept c rest).txBuf = s.txBuf := rfl
@[simp] theorem State.accept_txLen (s : State) (c : Command) (rest : List Command) : (s.accept c rest).txLen = s.txLen := rfl
@[simp] theorem State.accept_rxBuf (s : State) (c : Command) (rest : List Command) : (s.accept c rest).rxBuf = s.rxBuf := rfl
@[simp] theorem State.accept_tstate (s : State) (c : Command) (rest : List Command) : (s.accept c rest).tstate = s.tstate := rfl
@[simp] theorem State.accept_deadline (s : State) (c : Command) (rest : List Command) : (s.accept c rest).deadline = s.deadline := rfl
@[simp] theorem State.accept_tPoll (s : State) (c : Command) (rest : List Command) : (s.accept c rest).tPoll = s.tPoll := rfl
@[simp] theorem State.accept_lock (s : State) (c : Command) (rest : List Command) : (s.accept c rest).lock = true := rfl
@[simp] theorem State.accept_status (s : State) (c : Command) (rest : List Command) : (s.accept c rest).status = s.status.accepted := rfl
@[simp] theorem State.accept_rdata (s : State) (c : Command) (rest : List Command) : (s.accept c rest).rdata = s.rdata := rfl
@[simp] theorem State.accept_timeout (s : State) (c : Command) (rest : List Command) : (s.accept c rest).timeout = s.timeout := rfl
@[simp] theorem State.accept_pollInterval (s : State) (c : Command) (rest : List Command) : (s.accept c rest).pollInterval = s.pollInterval := rfl
@[simp] theorem State.accept_config (s : State) (c : Command) (rest : List Command) : (s.accept c rest).config = s.config := rfl
@[simp] theorem State.accept_frameReady (s : State) (c : Command) (rest : List Command) : (s.accept c rest).frameReady = s.frameReady := rfl
@[simp] theorem State.accept_pollHold (s : State) (c : Command) (rest : List Command) : (s.accept c rest).pollHold = s.pollHold := rfl
@[simp] theorem State.accept_rxGot (s : State) (c : Command) (rest : List Command) : (s.accept c rest).rxGot = s.rxGot := rfl
@[simp] theorem State.accept_rxq (s : State) (c : Command) (rest : List Command) : (s.accept c rest).rxq = s.rxq := rfl
@[simp] theorem State.accept_txlog (s : State) (c : Command) (rest : List Command) : (s.accept c rest).txlog = s.txlog := rfl
@[simp] theorem State.accept_chReadLimit (s : State) (c : Command) (rest : List Command) : (s.accept c rest).chReadLimit = s.chReadLimit := rfl
@[simp] theorem State.accept_clock (s : State) (c : Command) (rest : List Command) : (s.accept c rest).clock = s.clock := rfl
@[simp] theorem State.accept_waiting (s : State) (c : Command) (rest : List Command) : (s.accept c rest).waiting = rest := rfl
@[simp] theorem State.accept_records (s : State) (c : Command) (rest : List Command) : (s.accept c rest).records = s.records := rfl
@[simp] theorem State.accept_readLog (s : State) (c : Command) (rest : List Command) : (s.accept c rest).readLog = s.readLog := rfl
@[simp] theorem State.accept_schedule (s : State) (c : Command) (rest : List Command) : (s.accept c rest).schedule = s.schedule := rfl

/-! ### What `ParseAddress` writes (R90). -/

@[simp] theorem State.setParsed_cmdOp (s : State) (a : Area) (o : UnitAddr) : (s.setParsed a o).cmdOp = s.cmdOp := rfl
@[simp] theorem State.setParsed_cmdReq (s : State) (a : Area) (o : UnitAddr) : (s.setParsed a o).cmdReq = s.cmdReq := rfl
@[simp] theorem State.setParsed_cmdAddr (s : State) (a : Area) (o : UnitAddr) : (s.setParsed a o).cmdAddr = s.cmdAddr := rfl
@[simp] theorem State.setParsed_cmdAddrLen (s : State) (a : Area) (o : UnitAddr) : (s.setParsed a o).cmdAddrLen = s.cmdAddrLen := rfl
@[simp] theorem State.setParsed_cmdWdata (s : State) (a : Area) (o : UnitAddr) : (s.setParsed a o).cmdWdata = s.cmdWdata := rfl
@[simp] theorem State.setParsed_area (s : State) (a : Area) (o : UnitAddr) : (s.setParsed a o).area = a := rfl
@[simp] theorem State.setParsed_offset (s : State) (a : Area) (o : UnitAddr) : (s.setParsed a o).offset = o := rfl
@[simp] theorem State.setParsed_uaddr (s : State) (a : Area) (o : UnitAddr) : (s.setParsed a o).uaddr = s.uaddr := rfl
@[simp] theorem State.setParsed_len (s : State) (a : Area) (o : UnitAddr) : (s.setParsed a o).len = s.len := rfl
@[simp] theorem State.setParsed_bitsel (s : State) (a : Area) (o : UnitAddr) : (s.setParsed a o).bitsel = o.extractLsb' 0 3 := rfl
@[simp] theorem State.setParsed_expectN (s : State) (a : Area) (o : UnitAddr) : (s.setParsed a o).expectN = s.expectN := rfl
@[simp] theorem State.setParsed_txBuf (s : State) (a : Area) (o : UnitAddr) : (s.setParsed a o).txBuf = s.txBuf := rfl
@[simp] theorem State.setParsed_txLen (s : State) (a : Area) (o : UnitAddr) : (s.setParsed a o).txLen = s.txLen := rfl
@[simp] theorem State.setParsed_rxBuf (s : State) (a : Area) (o : UnitAddr) : (s.setParsed a o).rxBuf = s.rxBuf := rfl
@[simp] theorem State.setParsed_tstate (s : State) (a : Area) (o : UnitAddr) : (s.setParsed a o).tstate = s.tstate := rfl
@[simp] theorem State.setParsed_deadline (s : State) (a : Area) (o : UnitAddr) : (s.setParsed a o).deadline = s.deadline := rfl
@[simp] theorem State.setParsed_tPoll (s : State) (a : Area) (o : UnitAddr) : (s.setParsed a o).tPoll = s.tPoll := rfl
@[simp] theorem State.setParsed_lock (s : State) (a : Area) (o : UnitAddr) : (s.setParsed a o).lock = s.lock := rfl
@[simp] theorem State.setParsed_status (s : State) (a : Area) (o : UnitAddr) : (s.setParsed a o).status = s.status := rfl
@[simp] theorem State.setParsed_rdata (s : State) (a : Area) (o : UnitAddr) : (s.setParsed a o).rdata = s.rdata := rfl
@[simp] theorem State.setParsed_timeout (s : State) (a : Area) (o : UnitAddr) : (s.setParsed a o).timeout = s.timeout := rfl
@[simp] theorem State.setParsed_pollInterval (s : State) (a : Area) (o : UnitAddr) : (s.setParsed a o).pollInterval = s.pollInterval := rfl
@[simp] theorem State.setParsed_config (s : State) (a : Area) (o : UnitAddr) : (s.setParsed a o).config = s.config := rfl
@[simp] theorem State.setParsed_frameReady (s : State) (a : Area) (o : UnitAddr) : (s.setParsed a o).frameReady = s.frameReady := rfl
@[simp] theorem State.setParsed_pollHold (s : State) (a : Area) (o : UnitAddr) : (s.setParsed a o).pollHold = s.pollHold := rfl
@[simp] theorem State.setParsed_rxGot (s : State) (a : Area) (o : UnitAddr) : (s.setParsed a o).rxGot = s.rxGot := rfl
@[simp] theorem State.setParsed_rxq (s : State) (a : Area) (o : UnitAddr) : (s.setParsed a o).rxq = s.rxq := rfl
@[simp] theorem State.setParsed_txlog (s : State) (a : Area) (o : UnitAddr) : (s.setParsed a o).txlog = s.txlog := rfl
@[simp] theorem State.setParsed_chReadLimit (s : State) (a : Area) (o : UnitAddr) : (s.setParsed a o).chReadLimit = s.chReadLimit := rfl
@[simp] theorem State.setParsed_clock (s : State) (a : Area) (o : UnitAddr) : (s.setParsed a o).clock = s.clock := rfl
@[simp] theorem State.setParsed_waiting (s : State) (a : Area) (o : UnitAddr) : (s.setParsed a o).waiting = s.waiting := rfl
@[simp] theorem State.setParsed_records (s : State) (a : Area) (o : UnitAddr) : (s.setParsed a o).records = s.records := rfl
@[simp] theorem State.setParsed_readLog (s : State) (a : Area) (o : UnitAddr) : (s.setParsed a o).readLog = s.readLog := rfl
@[simp] theorem State.setParsed_schedule (s : State) (a : Area) (o : UnitAddr) : (s.setParsed a o).schedule = s.schedule := rfl

/-! ### What `Resolve` writes (R95). -/

@[simp] theorem State.setUaddr_cmdOp (s : State) (u : UnitAddr) : (s.setUaddr u).cmdOp = s.cmdOp := rfl
@[simp] theorem State.setUaddr_cmdReq (s : State) (u : UnitAddr) : (s.setUaddr u).cmdReq = s.cmdReq := rfl
@[simp] theorem State.setUaddr_cmdAddr (s : State) (u : UnitAddr) : (s.setUaddr u).cmdAddr = s.cmdAddr := rfl
@[simp] theorem State.setUaddr_cmdAddrLen (s : State) (u : UnitAddr) : (s.setUaddr u).cmdAddrLen = s.cmdAddrLen := rfl
@[simp] theorem State.setUaddr_cmdWdata (s : State) (u : UnitAddr) : (s.setUaddr u).cmdWdata = s.cmdWdata := rfl
@[simp] theorem State.setUaddr_area (s : State) (u : UnitAddr) : (s.setUaddr u).area = s.area := rfl
@[simp] theorem State.setUaddr_offset (s : State) (u : UnitAddr) : (s.setUaddr u).offset = s.offset := rfl
@[simp] theorem State.setUaddr_uaddr (s : State) (u : UnitAddr) : (s.setUaddr u).uaddr = u := rfl
@[simp] theorem State.setUaddr_len (s : State) (u : UnitAddr) : (s.setUaddr u).len = s.len := rfl
@[simp] theorem State.setUaddr_bitsel (s : State) (u : UnitAddr) : (s.setUaddr u).bitsel = s.bitsel := rfl
@[simp] theorem State.setUaddr_expectN (s : State) (u : UnitAddr) : (s.setUaddr u).expectN = s.expectN := rfl
@[simp] theorem State.setUaddr_txBuf (s : State) (u : UnitAddr) : (s.setUaddr u).txBuf = s.txBuf := rfl
@[simp] theorem State.setUaddr_txLen (s : State) (u : UnitAddr) : (s.setUaddr u).txLen = s.txLen := rfl
@[simp] theorem State.setUaddr_rxBuf (s : State) (u : UnitAddr) : (s.setUaddr u).rxBuf = s.rxBuf := rfl
@[simp] theorem State.setUaddr_tstate (s : State) (u : UnitAddr) : (s.setUaddr u).tstate = s.tstate := rfl
@[simp] theorem State.setUaddr_deadline (s : State) (u : UnitAddr) : (s.setUaddr u).deadline = s.deadline := rfl
@[simp] theorem State.setUaddr_tPoll (s : State) (u : UnitAddr) : (s.setUaddr u).tPoll = s.tPoll := rfl
@[simp] theorem State.setUaddr_lock (s : State) (u : UnitAddr) : (s.setUaddr u).lock = s.lock := rfl
@[simp] theorem State.setUaddr_status (s : State) (u : UnitAddr) : (s.setUaddr u).status = s.status := rfl
@[simp] theorem State.setUaddr_rdata (s : State) (u : UnitAddr) : (s.setUaddr u).rdata = s.rdata := rfl
@[simp] theorem State.setUaddr_timeout (s : State) (u : UnitAddr) : (s.setUaddr u).timeout = s.timeout := rfl
@[simp] theorem State.setUaddr_pollInterval (s : State) (u : UnitAddr) : (s.setUaddr u).pollInterval = s.pollInterval := rfl
@[simp] theorem State.setUaddr_config (s : State) (u : UnitAddr) : (s.setUaddr u).config = s.config := rfl
@[simp] theorem State.setUaddr_frameReady (s : State) (u : UnitAddr) : (s.setUaddr u).frameReady = s.frameReady := rfl
@[simp] theorem State.setUaddr_pollHold (s : State) (u : UnitAddr) : (s.setUaddr u).pollHold = s.pollHold := rfl
@[simp] theorem State.setUaddr_rxGot (s : State) (u : UnitAddr) : (s.setUaddr u).rxGot = s.rxGot := rfl
@[simp] theorem State.setUaddr_rxq (s : State) (u : UnitAddr) : (s.setUaddr u).rxq = s.rxq := rfl
@[simp] theorem State.setUaddr_txlog (s : State) (u : UnitAddr) : (s.setUaddr u).txlog = s.txlog := rfl
@[simp] theorem State.setUaddr_chReadLimit (s : State) (u : UnitAddr) : (s.setUaddr u).chReadLimit = s.chReadLimit := rfl
@[simp] theorem State.setUaddr_clock (s : State) (u : UnitAddr) : (s.setUaddr u).clock = s.clock := rfl
@[simp] theorem State.setUaddr_waiting (s : State) (u : UnitAddr) : (s.setUaddr u).waiting = s.waiting := rfl
@[simp] theorem State.setUaddr_records (s : State) (u : UnitAddr) : (s.setUaddr u).records = s.records := rfl
@[simp] theorem State.setUaddr_readLog (s : State) (u : UnitAddr) : (s.setUaddr u).readLog = s.readLog := rfl
@[simp] theorem State.setUaddr_schedule (s : State) (u : UnitAddr) : (s.setUaddr u).schedule = s.schedule := rfl

/-! ### What command decode writes (R17). -/

@[simp] theorem State.setLen_cmdOp (s : State) (n : Nat) : (s.setLen n).cmdOp = s.cmdOp := rfl
@[simp] theorem State.setLen_cmdReq (s : State) (n : Nat) : (s.setLen n).cmdReq = s.cmdReq := rfl
@[simp] theorem State.setLen_cmdAddr (s : State) (n : Nat) : (s.setLen n).cmdAddr = s.cmdAddr := rfl
@[simp] theorem State.setLen_cmdAddrLen (s : State) (n : Nat) : (s.setLen n).cmdAddrLen = s.cmdAddrLen := rfl
@[simp] theorem State.setLen_cmdWdata (s : State) (n : Nat) : (s.setLen n).cmdWdata = s.cmdWdata := rfl
@[simp] theorem State.setLen_area (s : State) (n : Nat) : (s.setLen n).area = s.area := rfl
@[simp] theorem State.setLen_offset (s : State) (n : Nat) : (s.setLen n).offset = s.offset := rfl
@[simp] theorem State.setLen_uaddr (s : State) (n : Nat) : (s.setLen n).uaddr = s.uaddr := rfl
@[simp] theorem State.setLen_len (s : State) (n : Nat) : (s.setLen n).len = BitVec.ofNat 8 n := rfl
@[simp] theorem State.setLen_bitsel (s : State) (n : Nat) : (s.setLen n).bitsel = s.bitsel := rfl
@[simp] theorem State.setLen_expectN (s : State) (n : Nat) : (s.setLen n).expectN = s.expectN := rfl
@[simp] theorem State.setLen_txBuf (s : State) (n : Nat) : (s.setLen n).txBuf = s.txBuf := rfl
@[simp] theorem State.setLen_txLen (s : State) (n : Nat) : (s.setLen n).txLen = s.txLen := rfl
@[simp] theorem State.setLen_rxBuf (s : State) (n : Nat) : (s.setLen n).rxBuf = s.rxBuf := rfl
@[simp] theorem State.setLen_tstate (s : State) (n : Nat) : (s.setLen n).tstate = s.tstate := rfl
@[simp] theorem State.setLen_deadline (s : State) (n : Nat) : (s.setLen n).deadline = s.deadline := rfl
@[simp] theorem State.setLen_tPoll (s : State) (n : Nat) : (s.setLen n).tPoll = s.tPoll := rfl
@[simp] theorem State.setLen_lock (s : State) (n : Nat) : (s.setLen n).lock = s.lock := rfl
@[simp] theorem State.setLen_status (s : State) (n : Nat) : (s.setLen n).status = s.status := rfl
@[simp] theorem State.setLen_rdata (s : State) (n : Nat) : (s.setLen n).rdata = s.rdata := rfl
@[simp] theorem State.setLen_timeout (s : State) (n : Nat) : (s.setLen n).timeout = s.timeout := rfl
@[simp] theorem State.setLen_pollInterval (s : State) (n : Nat) : (s.setLen n).pollInterval = s.pollInterval := rfl
@[simp] theorem State.setLen_config (s : State) (n : Nat) : (s.setLen n).config = s.config := rfl
@[simp] theorem State.setLen_frameReady (s : State) (n : Nat) : (s.setLen n).frameReady = s.frameReady := rfl
@[simp] theorem State.setLen_pollHold (s : State) (n : Nat) : (s.setLen n).pollHold = s.pollHold := rfl
@[simp] theorem State.setLen_rxGot (s : State) (n : Nat) : (s.setLen n).rxGot = s.rxGot := rfl
@[simp] theorem State.setLen_rxq (s : State) (n : Nat) : (s.setLen n).rxq = s.rxq := rfl
@[simp] theorem State.setLen_txlog (s : State) (n : Nat) : (s.setLen n).txlog = s.txlog := rfl
@[simp] theorem State.setLen_chReadLimit (s : State) (n : Nat) : (s.setLen n).chReadLimit = s.chReadLimit := rfl
@[simp] theorem State.setLen_clock (s : State) (n : Nat) : (s.setLen n).clock = s.clock := rfl
@[simp] theorem State.setLen_waiting (s : State) (n : Nat) : (s.setLen n).waiting = s.waiting := rfl
@[simp] theorem State.setLen_records (s : State) (n : Nat) : (s.setLen n).records = s.records := rfl
@[simp] theorem State.setLen_readLog (s : State) (n : Nat) : (s.setLen n).readLog = s.readLog := rfl
@[simp] theorem State.setLen_schedule (s : State) (n : Nat) : (s.setLen n).schedule = s.schedule := rfl

/-! ### The frame is built (R120). -/

@[simp] theorem State.setFrame_cmdOp (s : State) (f : List Byte) (n : Nat) : (s.setFrame f n).cmdOp = s.cmdOp := rfl
@[simp] theorem State.setFrame_cmdReq (s : State) (f : List Byte) (n : Nat) : (s.setFrame f n).cmdReq = s.cmdReq := rfl
@[simp] theorem State.setFrame_cmdAddr (s : State) (f : List Byte) (n : Nat) : (s.setFrame f n).cmdAddr = s.cmdAddr := rfl
@[simp] theorem State.setFrame_cmdAddrLen (s : State) (f : List Byte) (n : Nat) : (s.setFrame f n).cmdAddrLen = s.cmdAddrLen := rfl
@[simp] theorem State.setFrame_cmdWdata (s : State) (f : List Byte) (n : Nat) : (s.setFrame f n).cmdWdata = s.cmdWdata := rfl
@[simp] theorem State.setFrame_area (s : State) (f : List Byte) (n : Nat) : (s.setFrame f n).area = s.area := rfl
@[simp] theorem State.setFrame_offset (s : State) (f : List Byte) (n : Nat) : (s.setFrame f n).offset = s.offset := rfl
@[simp] theorem State.setFrame_uaddr (s : State) (f : List Byte) (n : Nat) : (s.setFrame f n).uaddr = s.uaddr := rfl
@[simp] theorem State.setFrame_len (s : State) (f : List Byte) (n : Nat) : (s.setFrame f n).len = s.len := rfl
@[simp] theorem State.setFrame_bitsel (s : State) (f : List Byte) (n : Nat) : (s.setFrame f n).bitsel = s.bitsel := rfl
@[simp] theorem State.setFrame_expectN (s : State) (f : List Byte) (n : Nat) : (s.setFrame f n).expectN = BitVec.ofNat 10 n := rfl
@[simp] theorem State.setFrame_txBuf (s : State) (f : List Byte) (n : Nat) : (s.setFrame f n).txBuf = overlay f s.txBuf := rfl
@[simp] theorem State.setFrame_txLen (s : State) (f : List Byte) (n : Nat) : (s.setFrame f n).txLen = BitVec.ofNat 5 f.length := rfl
@[simp] theorem State.setFrame_rxBuf (s : State) (f : List Byte) (n : Nat) : (s.setFrame f n).rxBuf = s.rxBuf := rfl
@[simp] theorem State.setFrame_tstate (s : State) (f : List Byte) (n : Nat) : (s.setFrame f n).tstate = s.tstate := rfl
@[simp] theorem State.setFrame_deadline (s : State) (f : List Byte) (n : Nat) : (s.setFrame f n).deadline = s.deadline := rfl
@[simp] theorem State.setFrame_tPoll (s : State) (f : List Byte) (n : Nat) : (s.setFrame f n).tPoll = s.tPoll := rfl
@[simp] theorem State.setFrame_lock (s : State) (f : List Byte) (n : Nat) : (s.setFrame f n).lock = s.lock := rfl
@[simp] theorem State.setFrame_status (s : State) (f : List Byte) (n : Nat) : (s.setFrame f n).status = s.status := rfl
@[simp] theorem State.setFrame_rdata (s : State) (f : List Byte) (n : Nat) : (s.setFrame f n).rdata = s.rdata := rfl
@[simp] theorem State.setFrame_timeout (s : State) (f : List Byte) (n : Nat) : (s.setFrame f n).timeout = s.timeout := rfl
@[simp] theorem State.setFrame_pollInterval (s : State) (f : List Byte) (n : Nat) : (s.setFrame f n).pollInterval = s.pollInterval := rfl
@[simp] theorem State.setFrame_config (s : State) (f : List Byte) (n : Nat) : (s.setFrame f n).config = s.config := rfl
@[simp] theorem State.setFrame_frameReady (s : State) (f : List Byte) (n : Nat) : (s.setFrame f n).frameReady = true := rfl
@[simp] theorem State.setFrame_pollHold (s : State) (f : List Byte) (n : Nat) : (s.setFrame f n).pollHold = s.pollHold := rfl
@[simp] theorem State.setFrame_rxGot (s : State) (f : List Byte) (n : Nat) : (s.setFrame f n).rxGot = s.rxGot := rfl
@[simp] theorem State.setFrame_rxq (s : State) (f : List Byte) (n : Nat) : (s.setFrame f n).rxq = s.rxq := rfl
@[simp] theorem State.setFrame_txlog (s : State) (f : List Byte) (n : Nat) : (s.setFrame f n).txlog = s.txlog := rfl
@[simp] theorem State.setFrame_chReadLimit (s : State) (f : List Byte) (n : Nat) : (s.setFrame f n).chReadLimit = s.chReadLimit := rfl
@[simp] theorem State.setFrame_clock (s : State) (f : List Byte) (n : Nat) : (s.setFrame f n).clock = s.clock := rfl
@[simp] theorem State.setFrame_waiting (s : State) (f : List Byte) (n : Nat) : (s.setFrame f n).waiting = s.waiting := rfl
@[simp] theorem State.setFrame_records (s : State) (f : List Byte) (n : Nat) : (s.setFrame f n).records = s.records := rfl
@[simp] theorem State.setFrame_readLog (s : State) (f : List Byte) (n : Nat) : (s.setFrame f n).readLog = s.readLog := rfl
@[simp] theorem State.setFrame_schedule (s : State) (f : List Byte) (n : Nat) : (s.setFrame f n).schedule = s.schedule := rfl

/-! ### The frame is written (R131). -/

@[simp] theorem State.send_cmdOp (s : State) (f : List Byte) : (s.send f).cmdOp = s.cmdOp := rfl
@[simp] theorem State.send_cmdReq (s : State) (f : List Byte) : (s.send f).cmdReq = s.cmdReq := rfl
@[simp] theorem State.send_cmdAddr (s : State) (f : List Byte) : (s.send f).cmdAddr = s.cmdAddr := rfl
@[simp] theorem State.send_cmdAddrLen (s : State) (f : List Byte) : (s.send f).cmdAddrLen = s.cmdAddrLen := rfl
@[simp] theorem State.send_cmdWdata (s : State) (f : List Byte) : (s.send f).cmdWdata = s.cmdWdata := rfl
@[simp] theorem State.send_area (s : State) (f : List Byte) : (s.send f).area = s.area := rfl
@[simp] theorem State.send_offset (s : State) (f : List Byte) : (s.send f).offset = s.offset := rfl
@[simp] theorem State.send_uaddr (s : State) (f : List Byte) : (s.send f).uaddr = s.uaddr := rfl
@[simp] theorem State.send_len (s : State) (f : List Byte) : (s.send f).len = s.len := rfl
@[simp] theorem State.send_bitsel (s : State) (f : List Byte) : (s.send f).bitsel = s.bitsel := rfl
@[simp] theorem State.send_expectN (s : State) (f : List Byte) : (s.send f).expectN = s.expectN := rfl
@[simp] theorem State.send_txBuf (s : State) (f : List Byte) : (s.send f).txBuf = s.txBuf := rfl
@[simp] theorem State.send_txLen (s : State) (f : List Byte) : (s.send f).txLen = s.txLen := rfl
@[simp] theorem State.send_rxBuf (s : State) (f : List Byte) : (s.send f).rxBuf = s.rxBuf := rfl
@[simp] theorem State.send_tstate (s : State) (f : List Byte) : (s.send f).tstate = .sent := rfl
@[simp] theorem State.send_deadline (s : State) (f : List Byte) : (s.send f).deadline = s.deadline := rfl
@[simp] theorem State.send_tPoll (s : State) (f : List Byte) : (s.send f).tPoll = s.tPoll := rfl
@[simp] theorem State.send_lock (s : State) (f : List Byte) : (s.send f).lock = s.lock := rfl
@[simp] theorem State.send_status (s : State) (f : List Byte) : (s.send f).status = s.status := rfl
@[simp] theorem State.send_rdata (s : State) (f : List Byte) : (s.send f).rdata = s.rdata := rfl
@[simp] theorem State.send_timeout (s : State) (f : List Byte) : (s.send f).timeout = s.timeout := rfl
@[simp] theorem State.send_pollInterval (s : State) (f : List Byte) : (s.send f).pollInterval = s.pollInterval := rfl
@[simp] theorem State.send_config (s : State) (f : List Byte) : (s.send f).config = s.config := rfl
@[simp] theorem State.send_frameReady (s : State) (f : List Byte) : (s.send f).frameReady = false := rfl
@[simp] theorem State.send_pollHold (s : State) (f : List Byte) : (s.send f).pollHold = s.pollHold := rfl
@[simp] theorem State.send_rxGot (s : State) (f : List Byte) : (s.send f).rxGot = s.rxGot := rfl
@[simp] theorem State.send_rxq (s : State) (f : List Byte) : (s.send f).rxq = s.rxq := rfl
@[simp] theorem State.send_txlog (s : State) (f : List Byte) : (s.send f).txlog = s.txlog ++ f := rfl
@[simp] theorem State.send_chReadLimit (s : State) (f : List Byte) : (s.send f).chReadLimit = s.chReadLimit := rfl
@[simp] theorem State.send_clock (s : State) (f : List Byte) : (s.send f).clock = s.clock := rfl
@[simp] theorem State.send_waiting (s : State) (f : List Byte) : (s.send f).waiting = s.waiting := rfl
@[simp] theorem State.send_records (s : State) (f : List Byte) : (s.send f).records = s.records := rfl
@[simp] theorem State.send_readLog (s : State) (f : List Byte) : (s.send f).readLog = s.readLog := rfl
@[simp] theorem State.send_schedule (s : State) (f : List Byte) : (s.send f).schedule = s.schedule := rfl

/-! ### A channel read (R199). -/

@[simp] theorem State.chRead_cmdOp (s : State) (n : Nat) : (s.chRead n).cmdOp = s.cmdOp := rfl
@[simp] theorem State.chRead_cmdReq (s : State) (n : Nat) : (s.chRead n).cmdReq = s.cmdReq := rfl
@[simp] theorem State.chRead_cmdAddr (s : State) (n : Nat) : (s.chRead n).cmdAddr = s.cmdAddr := rfl
@[simp] theorem State.chRead_cmdAddrLen (s : State) (n : Nat) : (s.chRead n).cmdAddrLen = s.cmdAddrLen := rfl
@[simp] theorem State.chRead_cmdWdata (s : State) (n : Nat) : (s.chRead n).cmdWdata = s.cmdWdata := rfl
@[simp] theorem State.chRead_area (s : State) (n : Nat) : (s.chRead n).area = s.area := rfl
@[simp] theorem State.chRead_offset (s : State) (n : Nat) : (s.chRead n).offset = s.offset := rfl
@[simp] theorem State.chRead_uaddr (s : State) (n : Nat) : (s.chRead n).uaddr = s.uaddr := rfl
@[simp] theorem State.chRead_len (s : State) (n : Nat) : (s.chRead n).len = s.len := rfl
@[simp] theorem State.chRead_bitsel (s : State) (n : Nat) : (s.chRead n).bitsel = s.bitsel := rfl
@[simp] theorem State.chRead_expectN (s : State) (n : Nat) : (s.chRead n).expectN = s.expectN := rfl
@[simp] theorem State.chRead_txBuf (s : State) (n : Nat) : (s.chRead n).txBuf = s.txBuf := rfl
@[simp] theorem State.chRead_txLen (s : State) (n : Nat) : (s.chRead n).txLen = s.txLen := rfl
@[simp] theorem State.chRead_rxBuf (s : State) (n : Nat) : (s.chRead n).rxBuf = overlay (s.rxq.take (s.chReadCount n)) s.rxBuf := rfl
@[simp] theorem State.chRead_tstate (s : State) (n : Nat) : (s.chRead n).tstate = s.tstate := rfl
@[simp] theorem State.chRead_deadline (s : State) (n : Nat) : (s.chRead n).deadline = s.deadline := rfl
@[simp] theorem State.chRead_tPoll (s : State) (n : Nat) : (s.chRead n).tPoll = s.tPoll := rfl
@[simp] theorem State.chRead_lock (s : State) (n : Nat) : (s.chRead n).lock = s.lock := rfl
@[simp] theorem State.chRead_status (s : State) (n : Nat) : (s.chRead n).status = s.status := rfl
@[simp] theorem State.chRead_rdata (s : State) (n : Nat) : (s.chRead n).rdata = s.rdata := rfl
@[simp] theorem State.chRead_timeout (s : State) (n : Nat) : (s.chRead n).timeout = s.timeout := rfl
@[simp] theorem State.chRead_pollInterval (s : State) (n : Nat) : (s.chRead n).pollInterval = s.pollInterval := rfl
@[simp] theorem State.chRead_config (s : State) (n : Nat) : (s.chRead n).config = s.config := rfl
@[simp] theorem State.chRead_frameReady (s : State) (n : Nat) : (s.chRead n).frameReady = s.frameReady := rfl
@[simp] theorem State.chRead_pollHold (s : State) (n : Nat) : (s.chRead n).pollHold = s.pollHold := rfl
@[simp] theorem State.chRead_rxGot (s : State) (n : Nat) : (s.chRead n).rxGot = (s.rxq.take (s.chReadCount n)).length := rfl
@[simp] theorem State.chRead_rxq (s : State) (n : Nat) : (s.chRead n).rxq = s.rxq.drop (s.chReadCount n) := rfl
@[simp] theorem State.chRead_txlog (s : State) (n : Nat) : (s.chRead n).txlog = s.txlog := rfl
@[simp] theorem State.chRead_chReadLimit (s : State) (n : Nat) : (s.chRead n).chReadLimit = none := rfl
@[simp] theorem State.chRead_clock (s : State) (n : Nat) : (s.chRead n).clock = s.clock := rfl
@[simp] theorem State.chRead_waiting (s : State) (n : Nat) : (s.chRead n).waiting = s.waiting := rfl
@[simp] theorem State.chRead_records (s : State) (n : Nat) : (s.chRead n).records = s.records := rfl
@[simp] theorem State.chRead_readLog (s : State) (n : Nat) : (s.chRead n).readLog = s.readLog := rfl
@[simp] theorem State.chRead_schedule (s : State) (n : Nat) : (s.chRead n).schedule = s.schedule := rfl

/-! ### The deadline is recorded (R132). -/

@[simp] theorem State.recordDeadline_cmdOp (s : State) : (s.recordDeadline).cmdOp = s.cmdOp := rfl
@[simp] theorem State.recordDeadline_cmdReq (s : State) : (s.recordDeadline).cmdReq = s.cmdReq := rfl
@[simp] theorem State.recordDeadline_cmdAddr (s : State) : (s.recordDeadline).cmdAddr = s.cmdAddr := rfl
@[simp] theorem State.recordDeadline_cmdAddrLen (s : State) : (s.recordDeadline).cmdAddrLen = s.cmdAddrLen := rfl
@[simp] theorem State.recordDeadline_cmdWdata (s : State) : (s.recordDeadline).cmdWdata = s.cmdWdata := rfl
@[simp] theorem State.recordDeadline_area (s : State) : (s.recordDeadline).area = s.area := rfl
@[simp] theorem State.recordDeadline_offset (s : State) : (s.recordDeadline).offset = s.offset := rfl
@[simp] theorem State.recordDeadline_uaddr (s : State) : (s.recordDeadline).uaddr = s.uaddr := rfl
@[simp] theorem State.recordDeadline_len (s : State) : (s.recordDeadline).len = s.len := rfl
@[simp] theorem State.recordDeadline_bitsel (s : State) : (s.recordDeadline).bitsel = s.bitsel := rfl
@[simp] theorem State.recordDeadline_expectN (s : State) : (s.recordDeadline).expectN = s.expectN := rfl
@[simp] theorem State.recordDeadline_txBuf (s : State) : (s.recordDeadline).txBuf = s.txBuf := rfl
@[simp] theorem State.recordDeadline_txLen (s : State) : (s.recordDeadline).txLen = s.txLen := rfl
@[simp] theorem State.recordDeadline_rxBuf (s : State) : (s.recordDeadline).rxBuf = s.rxBuf := rfl
@[simp] theorem State.recordDeadline_tstate (s : State) : (s.recordDeadline).tstate = .awaitingLength := rfl
@[simp] theorem State.recordDeadline_deadline (s : State) : (s.recordDeadline).deadline = s.clock + s.timeout.toNat := rfl
@[simp] theorem State.recordDeadline_tPoll (s : State) : (s.recordDeadline).tPoll = s.tPoll := rfl
@[simp] theorem State.recordDeadline_lock (s : State) : (s.recordDeadline).lock = s.lock := rfl
@[simp] theorem State.recordDeadline_status (s : State) : (s.recordDeadline).status = s.status := rfl
@[simp] theorem State.recordDeadline_rdata (s : State) : (s.recordDeadline).rdata = s.rdata := rfl
@[simp] theorem State.recordDeadline_timeout (s : State) : (s.recordDeadline).timeout = s.timeout := rfl
@[simp] theorem State.recordDeadline_pollInterval (s : State) : (s.recordDeadline).pollInterval = s.pollInterval := rfl
@[simp] theorem State.recordDeadline_config (s : State) : (s.recordDeadline).config = s.config := rfl
@[simp] theorem State.recordDeadline_frameReady (s : State) : (s.recordDeadline).frameReady = s.frameReady := rfl
@[simp] theorem State.recordDeadline_pollHold (s : State) : (s.recordDeadline).pollHold = none := rfl
@[simp] theorem State.recordDeadline_rxGot (s : State) : (s.recordDeadline).rxGot = s.rxGot := rfl
@[simp] theorem State.recordDeadline_rxq (s : State) : (s.recordDeadline).rxq = s.rxq := rfl
@[simp] theorem State.recordDeadline_txlog (s : State) : (s.recordDeadline).txlog = s.txlog := rfl
@[simp] theorem State.recordDeadline_chReadLimit (s : State) : (s.recordDeadline).chReadLimit = s.chReadLimit := rfl
@[simp] theorem State.recordDeadline_clock (s : State) : (s.recordDeadline).clock = s.clock := rfl
@[simp] theorem State.recordDeadline_waiting (s : State) : (s.recordDeadline).waiting = s.waiting := rfl
@[simp] theorem State.recordDeadline_records (s : State) : (s.recordDeadline).records = s.records := rfl
@[simp] theorem State.recordDeadline_readLog (s : State) : (s.recordDeadline).readLog = s.readLog := rfl
@[simp] theorem State.recordDeadline_schedule (s : State) : (s.recordDeadline).schedule = s.schedule := rfl

/-! ### The response is read (R134). -/

@[simp] theorem State.takeResponse_cmdOp (s : State) : (s.takeResponse).cmdOp = s.cmdOp := rfl
@[simp] theorem State.takeResponse_cmdReq (s : State) : (s.takeResponse).cmdReq = s.cmdReq := rfl
@[simp] theorem State.takeResponse_cmdAddr (s : State) : (s.takeResponse).cmdAddr = s.cmdAddr := rfl
@[simp] theorem State.takeResponse_cmdAddrLen (s : State) : (s.takeResponse).cmdAddrLen = s.cmdAddrLen := rfl
@[simp] theorem State.takeResponse_cmdWdata (s : State) : (s.takeResponse).cmdWdata = s.cmdWdata := rfl
@[simp] theorem State.takeResponse_area (s : State) : (s.takeResponse).area = s.area := rfl
@[simp] theorem State.takeResponse_offset (s : State) : (s.takeResponse).offset = s.offset := rfl
@[simp] theorem State.takeResponse_uaddr (s : State) : (s.takeResponse).uaddr = s.uaddr := rfl
@[simp] theorem State.takeResponse_len (s : State) : (s.takeResponse).len = s.len := rfl
@[simp] theorem State.takeResponse_bitsel (s : State) : (s.takeResponse).bitsel = s.bitsel := rfl
@[simp] theorem State.takeResponse_expectN (s : State) : (s.takeResponse).expectN = s.expectN := rfl
@[simp] theorem State.takeResponse_txBuf (s : State) : (s.takeResponse).txBuf = s.txBuf := rfl
@[simp] theorem State.takeResponse_txLen (s : State) : (s.takeResponse).txLen = s.txLen := rfl
@[simp] theorem State.takeResponse_rxBuf (s : State) : (s.takeResponse).rxBuf = overlay (s.rxq.take (s.chReadCount s.expectN.toNat)) s.rxBuf := rfl
@[simp] theorem State.takeResponse_tstate (s : State) : (s.takeResponse).tstate = .complete := rfl
@[simp] theorem State.takeResponse_deadline (s : State) : (s.takeResponse).deadline = s.deadline := rfl
@[simp] theorem State.takeResponse_tPoll (s : State) : (s.takeResponse).tPoll = s.tPoll := rfl
@[simp] theorem State.takeResponse_lock (s : State) : (s.takeResponse).lock = s.lock := rfl
@[simp] theorem State.takeResponse_status (s : State) : (s.takeResponse).status = s.status := rfl
@[simp] theorem State.takeResponse_rdata (s : State) : (s.takeResponse).rdata = s.rdata := rfl
@[simp] theorem State.takeResponse_timeout (s : State) : (s.takeResponse).timeout = s.timeout := rfl
@[simp] theorem State.takeResponse_pollInterval (s : State) : (s.takeResponse).pollInterval = s.pollInterval := rfl
@[simp] theorem State.takeResponse_config (s : State) : (s.takeResponse).config = s.config := rfl
@[simp] theorem State.takeResponse_frameReady (s : State) : (s.takeResponse).frameReady = s.frameReady := rfl
@[simp] theorem State.takeResponse_pollHold (s : State) : (s.takeResponse).pollHold = none := rfl
@[simp] theorem State.takeResponse_rxGot (s : State) : (s.takeResponse).rxGot = (s.rxq.take (s.chReadCount s.expectN.toNat)).length := rfl
@[simp] theorem State.takeResponse_rxq (s : State) : (s.takeResponse).rxq = s.rxq.drop (s.chReadCount s.expectN.toNat) := rfl
@[simp] theorem State.takeResponse_txlog (s : State) : (s.takeResponse).txlog = s.txlog := rfl
@[simp] theorem State.takeResponse_chReadLimit (s : State) : (s.takeResponse).chReadLimit = none := rfl
@[simp] theorem State.takeResponse_clock (s : State) : (s.takeResponse).clock = s.clock := rfl
@[simp] theorem State.takeResponse_waiting (s : State) : (s.takeResponse).waiting = s.waiting := rfl
@[simp] theorem State.takeResponse_records (s : State) : (s.takeResponse).records = s.records := rfl
@[simp] theorem State.takeResponse_readLog (s : State) : (s.takeResponse).readLog = s.readLog := rfl
@[simp] theorem State.takeResponse_schedule (s : State) : (s.takeResponse).schedule = s.schedule := rfl

/-! ### The transaction times out (R135). -/

@[simp] theorem State.giveUp_cmdOp (s : State) : (s.giveUp).cmdOp = s.cmdOp := rfl
@[simp] theorem State.giveUp_cmdReq (s : State) : (s.giveUp).cmdReq = s.cmdReq := rfl
@[simp] theorem State.giveUp_cmdAddr (s : State) : (s.giveUp).cmdAddr = s.cmdAddr := rfl
@[simp] theorem State.giveUp_cmdAddrLen (s : State) : (s.giveUp).cmdAddrLen = s.cmdAddrLen := rfl
@[simp] theorem State.giveUp_cmdWdata (s : State) : (s.giveUp).cmdWdata = s.cmdWdata := rfl
@[simp] theorem State.giveUp_area (s : State) : (s.giveUp).area = s.area := rfl
@[simp] theorem State.giveUp_offset (s : State) : (s.giveUp).offset = s.offset := rfl
@[simp] theorem State.giveUp_uaddr (s : State) : (s.giveUp).uaddr = s.uaddr := rfl
@[simp] theorem State.giveUp_len (s : State) : (s.giveUp).len = s.len := rfl
@[simp] theorem State.giveUp_bitsel (s : State) : (s.giveUp).bitsel = s.bitsel := rfl
@[simp] theorem State.giveUp_expectN (s : State) : (s.giveUp).expectN = s.expectN := rfl
@[simp] theorem State.giveUp_txBuf (s : State) : (s.giveUp).txBuf = s.txBuf := rfl
@[simp] theorem State.giveUp_txLen (s : State) : (s.giveUp).txLen = s.txLen := rfl
@[simp] theorem State.giveUp_rxBuf (s : State) : (s.giveUp).rxBuf = s.rxBuf := rfl
@[simp] theorem State.giveUp_tstate (s : State) : (s.giveUp).tstate = .timedOut := rfl
@[simp] theorem State.giveUp_deadline (s : State) : (s.giveUp).deadline = s.deadline := rfl
@[simp] theorem State.giveUp_tPoll (s : State) : (s.giveUp).tPoll = s.tPoll := rfl
@[simp] theorem State.giveUp_lock (s : State) : (s.giveUp).lock = s.lock := rfl
@[simp] theorem State.giveUp_status (s : State) : (s.giveUp).status = s.status := rfl
@[simp] theorem State.giveUp_rdata (s : State) : (s.giveUp).rdata = s.rdata := rfl
@[simp] theorem State.giveUp_timeout (s : State) : (s.giveUp).timeout = s.timeout := rfl
@[simp] theorem State.giveUp_pollInterval (s : State) : (s.giveUp).pollInterval = s.pollInterval := rfl
@[simp] theorem State.giveUp_config (s : State) : (s.giveUp).config = s.config := rfl
@[simp] theorem State.giveUp_frameReady (s : State) : (s.giveUp).frameReady = s.frameReady := rfl
@[simp] theorem State.giveUp_pollHold (s : State) : (s.giveUp).pollHold = none := rfl
@[simp] theorem State.giveUp_rxGot (s : State) : (s.giveUp).rxGot = s.rxGot := rfl
@[simp] theorem State.giveUp_rxq (s : State) : (s.giveUp).rxq = s.rxq := rfl
@[simp] theorem State.giveUp_txlog (s : State) : (s.giveUp).txlog = s.txlog := rfl
@[simp] theorem State.giveUp_chReadLimit (s : State) : (s.giveUp).chReadLimit = s.chReadLimit := rfl
@[simp] theorem State.giveUp_clock (s : State) : (s.giveUp).clock = s.clock := rfl
@[simp] theorem State.giveUp_waiting (s : State) : (s.giveUp).waiting = s.waiting := rfl
@[simp] theorem State.giveUp_records (s : State) : (s.giveUp).records = s.records := rfl
@[simp] theorem State.giveUp_readLog (s : State) : (s.giveUp).readLog = s.readLog := rfl
@[simp] theorem State.giveUp_schedule (s : State) : (s.giveUp).schedule = s.schedule := rfl

/-! ### A poll wait starts (R136). -/

@[simp] theorem State.startWait_cmdOp (s : State) : (s.startWait).cmdOp = s.cmdOp := rfl
@[simp] theorem State.startWait_cmdReq (s : State) : (s.startWait).cmdReq = s.cmdReq := rfl
@[simp] theorem State.startWait_cmdAddr (s : State) : (s.startWait).cmdAddr = s.cmdAddr := rfl
@[simp] theorem State.startWait_cmdAddrLen (s : State) : (s.startWait).cmdAddrLen = s.cmdAddrLen := rfl
@[simp] theorem State.startWait_cmdWdata (s : State) : (s.startWait).cmdWdata = s.cmdWdata := rfl
@[simp] theorem State.startWait_area (s : State) : (s.startWait).area = s.area := rfl
@[simp] theorem State.startWait_offset (s : State) : (s.startWait).offset = s.offset := rfl
@[simp] theorem State.startWait_uaddr (s : State) : (s.startWait).uaddr = s.uaddr := rfl
@[simp] theorem State.startWait_len (s : State) : (s.startWait).len = s.len := rfl
@[simp] theorem State.startWait_bitsel (s : State) : (s.startWait).bitsel = s.bitsel := rfl
@[simp] theorem State.startWait_expectN (s : State) : (s.startWait).expectN = s.expectN := rfl
@[simp] theorem State.startWait_txBuf (s : State) : (s.startWait).txBuf = s.txBuf := rfl
@[simp] theorem State.startWait_txLen (s : State) : (s.startWait).txLen = s.txLen := rfl
@[simp] theorem State.startWait_rxBuf (s : State) : (s.startWait).rxBuf = s.rxBuf := rfl
@[simp] theorem State.startWait_tstate (s : State) : (s.startWait).tstate = s.tstate := rfl
@[simp] theorem State.startWait_deadline (s : State) : (s.startWait).deadline = s.deadline := rfl
@[simp] theorem State.startWait_tPoll (s : State) : (s.startWait).tPoll = s.clock := rfl
@[simp] theorem State.startWait_lock (s : State) : (s.startWait).lock = s.lock := rfl
@[simp] theorem State.startWait_status (s : State) : (s.startWait).status = s.status := rfl
@[simp] theorem State.startWait_rdata (s : State) : (s.startWait).rdata = s.rdata := rfl
@[simp] theorem State.startWait_timeout (s : State) : (s.startWait).timeout = s.timeout := rfl
@[simp] theorem State.startWait_pollInterval (s : State) : (s.startWait).pollInterval = s.pollInterval := rfl
@[simp] theorem State.startWait_config (s : State) : (s.startWait).config = s.config := rfl
@[simp] theorem State.startWait_frameReady (s : State) : (s.startWait).frameReady = s.frameReady := rfl
@[simp] theorem State.startWait_pollHold (s : State) : (s.startWait).pollHold = some s.pollInterval := rfl
@[simp] theorem State.startWait_rxGot (s : State) : (s.startWait).rxGot = s.rxGot := rfl
@[simp] theorem State.startWait_rxq (s : State) : (s.startWait).rxq = s.rxq := rfl
@[simp] theorem State.startWait_txlog (s : State) : (s.startWait).txlog = s.txlog := rfl
@[simp] theorem State.startWait_chReadLimit (s : State) : (s.startWait).chReadLimit = s.chReadLimit := rfl
@[simp] theorem State.startWait_clock (s : State) : (s.startWait).clock = s.clock := rfl
@[simp] theorem State.startWait_waiting (s : State) : (s.startWait).waiting = s.waiting := rfl
@[simp] theorem State.startWait_records (s : State) : (s.startWait).records = s.records := rfl
@[simp] theorem State.startWait_readLog (s : State) : (s.startWait).readLog = s.readLog := rfl
@[simp] theorem State.startWait_schedule (s : State) : (s.startWait).schedule = s.schedule := rfl

/-! ### Reset of the engine (R210 to R212): the registers of the engine, then what reset leaves alone -/

@[simp] theorem State.engineReset_cmdOp (s : State) : s.engineReset.cmdOp = State.reset.cmdOp := rfl
@[simp] theorem State.engineReset_cmdReq (s : State) : s.engineReset.cmdReq = State.reset.cmdReq := rfl
@[simp] theorem State.engineReset_cmdAddr (s : State) : s.engineReset.cmdAddr = State.reset.cmdAddr := rfl
@[simp] theorem State.engineReset_cmdAddrLen (s : State) : s.engineReset.cmdAddrLen = State.reset.cmdAddrLen := rfl
@[simp] theorem State.engineReset_cmdWdata (s : State) : s.engineReset.cmdWdata = State.reset.cmdWdata := rfl
@[simp] theorem State.engineReset_area (s : State) : s.engineReset.area = State.reset.area := rfl
@[simp] theorem State.engineReset_offset (s : State) : s.engineReset.offset = State.reset.offset := rfl
@[simp] theorem State.engineReset_uaddr (s : State) : s.engineReset.uaddr = State.reset.uaddr := rfl
@[simp] theorem State.engineReset_len (s : State) : s.engineReset.len = State.reset.len := rfl
@[simp] theorem State.engineReset_bitsel (s : State) : s.engineReset.bitsel = State.reset.bitsel := rfl
@[simp] theorem State.engineReset_expectN (s : State) : s.engineReset.expectN = State.reset.expectN := rfl
@[simp] theorem State.engineReset_txBuf (s : State) : s.engineReset.txBuf = State.reset.txBuf := rfl
@[simp] theorem State.engineReset_txLen (s : State) : s.engineReset.txLen = State.reset.txLen := rfl
@[simp] theorem State.engineReset_rxBuf (s : State) : s.engineReset.rxBuf = State.reset.rxBuf := rfl
@[simp] theorem State.engineReset_tstate (s : State) : s.engineReset.tstate = State.reset.tstate := rfl
@[simp] theorem State.engineReset_deadline (s : State) : s.engineReset.deadline = State.reset.deadline := rfl
@[simp] theorem State.engineReset_tPoll (s : State) : s.engineReset.tPoll = State.reset.tPoll := rfl
@[simp] theorem State.engineReset_lock (s : State) : s.engineReset.lock = State.reset.lock := rfl
@[simp] theorem State.engineReset_status (s : State) : s.engineReset.status = State.reset.status := rfl
@[simp] theorem State.engineReset_rdata (s : State) : s.engineReset.rdata = State.reset.rdata := rfl
@[simp] theorem State.engineReset_timeout (s : State) : s.engineReset.timeout = State.reset.timeout := rfl
@[simp] theorem State.engineReset_pollInterval (s : State) : s.engineReset.pollInterval = State.reset.pollInterval := rfl
@[simp] theorem State.engineReset_config (s : State) : s.engineReset.config = s.config := rfl
@[simp] theorem State.engineReset_frameReady (s : State) : s.engineReset.frameReady = State.reset.frameReady := rfl
@[simp] theorem State.engineReset_pollHold (s : State) : s.engineReset.pollHold = State.reset.pollHold := rfl
@[simp] theorem State.engineReset_rxGot (s : State) : s.engineReset.rxGot = State.reset.rxGot := rfl
@[simp] theorem State.engineReset_rxq (s : State) : s.engineReset.rxq = s.rxq := rfl
@[simp] theorem State.engineReset_txlog (s : State) : s.engineReset.txlog = s.txlog := rfl
@[simp] theorem State.engineReset_chReadLimit (s : State) : s.engineReset.chReadLimit = s.chReadLimit := rfl
@[simp] theorem State.engineReset_clock (s : State) : s.engineReset.clock = s.clock := rfl
@[simp] theorem State.engineReset_waiting (s : State) : s.engineReset.waiting = s.waiting := rfl
@[simp] theorem State.engineReset_records (s : State) : s.engineReset.records = s.records := rfl
@[simp] theorem State.engineReset_readLog (s : State) : s.engineReset.readLog = s.readLog := rfl
@[simp] theorem State.engineReset_schedule (s : State) : s.engineReset.schedule = s.schedule := rfl

end Sys2Proof.Machine
end

