-- ==== Sys2Proof/Laws/Buffers.lean ====
section
/-! SUPPORT. Laws of the buffer and queue operations: storing into a buffer keeps its size and gives back what was
stored, latching an address gives the address back, and a channel read splits the receive queue. -/

namespace Sys2Proof.Machine

/-- What was stored reads back. -/
@[simp] theorem overlay_take (bytes buffer : List Byte) : (overlay bytes buffer).take bytes.length = bytes := by
  simp [overlay]

/-- Storing keeps the size of the buffer. -/
theorem overlay_length {bytes buffer : List Byte} (h : bytes.length ≤ buffer.length) :
    (overlay bytes buffer).length = buffer.length := by
  simp [overlay]; omega

/-- The elements after the stored ones keep their content. -/
theorem overlay_drop (bytes buffer : List Byte) :
    (overlay bytes buffer).drop bytes.length = buffer.drop bytes.length := by
  simp [overlay]

/-- A well-formed address string has at most eight characters. -/
theorem addrFits_iff {addr : List Byte} : addrFits addr = true ↔ addr.length ≤ 8 := by
  unfold addrFits Config.addrLenMax; exact decide_eq_true_iff

/-- After acceptance the latch holds the command's address string (R12, R142). -/
theorem latchedAddr_accept {s : State} {c : Command} (rest : List Command) (h : c.wellFormed = true) :
    (s.accept c rest).latchedAddr = c.addr := by
  have h8 : c.addr.length ≤ 8 := addrFits_iff.mp h
  have : c.addr.length % 16 = c.addr.length := Nat.mod_eq_of_lt (by omega)
  simp [State.latchedAddr, this]

/-- After a frame is built, `TXBUF` up to `TX_LEN` is the frame (R20). -/
theorem txBuf_setFrame {s : State} {frame : List Byte} (n : Nat) (h : frame.length < 32) :
    (s.setFrame frame n).txBuf.take (s.setFrame frame n).txLen.toNat = frame := by
  have : frame.length % 32 = frame.length := Nat.mod_eq_of_lt h
  simp [this]

/-- A channel read returns at most what was asked for. -/
theorem chReadCount_le (s : State) (n : Nat) : s.chReadCount n ≤ n := by
  unfold State.chReadCount
  split
  · exact Nat.le_refl n
  · exact Nat.min_le_left _ _

/-- On a channel that keeps its contract it returns exactly that (R199). -/
theorem chReadCount_eq {s : State} (n : Nat) (h : s.chReadLimit = none) : s.chReadCount n = n := by
  simp [State.chReadCount, h]

/-! ### The latched address under the operations that leave the latch alone -/

@[simp] theorem State.finish_latchedAddr (s : State) (e : Err) (a : Bool) (v : Word) :
    (s.finish e a v).latchedAddr = s.latchedAddr := rfl
@[simp] theorem State.setParsed_latchedAddr (s : State) (a : Area) (o : UnitAddr) :
    (s.setParsed a o).latchedAddr = s.latchedAddr := rfl
@[simp] theorem State.setUaddr_latchedAddr (s : State) (u : UnitAddr) :
    (s.setUaddr u).latchedAddr = s.latchedAddr := rfl
@[simp] theorem State.setLen_latchedAddr (s : State) (n : Nat) :
    (s.setLen n).latchedAddr = s.latchedAddr := rfl
@[simp] theorem State.setFrame_latchedAddr (s : State) (f : List Byte) (n : Nat) :
    (s.setFrame f n).latchedAddr = s.latchedAddr := rfl
@[simp] theorem State.send_latchedAddr (s : State) (f : List Byte) :
    (s.send f).latchedAddr = s.latchedAddr := rfl
@[simp] theorem State.chRead_latchedAddr (s : State) (n : Nat) :
    (s.chRead n).latchedAddr = s.latchedAddr := rfl
@[simp] theorem State.recordDeadline_latchedAddr (s : State) :
    s.recordDeadline.latchedAddr = s.latchedAddr := rfl
@[simp] theorem State.takeResponse_latchedAddr (s : State) :
    s.takeResponse.latchedAddr = s.latchedAddr := rfl
@[simp] theorem State.giveUp_latchedAddr (s : State) :
    s.giveUp.latchedAddr = s.latchedAddr := rfl
@[simp] theorem State.startWait_latchedAddr (s : State) :
    s.startWait.latchedAddr = s.latchedAddr := rfl

end Sys2Proof.Machine
end

