-- ==== Sys2Proof/Laws/Codec.lean ====
section
/-! SUPPORT. Laws of the Ascii Codec and the Frame Builder: what a rendered byte decodes to, the fields of a frame as
characters of bytes, and taking a built frame apart. -/

namespace Sys2Proof.Machine

/-- Decoding a rendered digit gives the digit (R114). -/
@[simp] theorem hexVal_hexChar (d : BitVec 4) : hexVal (hexChar d) = some d := by
  revert d; decide

/-- A rendered digit is never the end marker. -/
theorem hexChar_ne_etx (d : BitVec 4) : hexChar d ≠ etx := by
  revert d; decide

/-- A legal hex character is the rendering of its value (R114: uppercase only). -/
theorem hexChar_of_hexVal {c : Byte} {d : BitVec 4} (h : hexVal c = some d) : hexChar d = c := by
  revert c d; decide

/-- Two characters per byte, high digit first (R46). -/
theorem asciiHex_byte (b : Byte) :
    asciiHex b.toNat 2 false = [hexChar (b.extractLsb' 4 4), hexChar (b.extractLsb' 0 4)] := by
  revert b; decide

/-- The two digits of a byte give the byte back. -/
theorem byte_of_digits (b : Byte) :
    BitVec.ofNat 8 ((b.extractLsb' 4 4).toNat * 16 + (b.extractLsb' 0 4).toNat) = b := by
  revert b; decide

/-- The checksum of a range is the rendering of its byte sum (R110). -/
theorem checksumAscii_eq (range : List Byte) : checksumAscii range = asciiHex (byteSum range).toNat 2 false := by
  rw [asciiHex_byte, checksumAscii]

@[simp] theorem hexOfBytes_nil : hexOfBytes [] = [] := rfl

@[simp] theorem hexOfBytes_cons (b : Byte) (bs : List Byte) :
    hexOfBytes (b :: bs) = hexChar (b.extractLsb' 4 4) :: hexChar (b.extractLsb' 0 4) :: hexOfBytes bs := by
  simp [hexOfBytes, asciiHex_byte]

@[simp] theorem hexOfBytes_length (bs : List Byte) : (hexOfBytes bs).length = 2 * bs.length := by
  induction bs with
  | nil => rfl
  | cons b bs ih => simp [ih]; omega

/-- Rendered bytes decode to the bytes. -/
@[simp] theorem asciiHexToBytes_hexOfBytes (bs : List Byte) : asciiHexToBytes (hexOfBytes bs) = some bs := by
  induction bs with
  | nil => rfl
  | cons b bs ih => simp only [hexOfBytes_cons, asciiHexToBytes, hexVal_hexChar, ih, byte_of_digits]

/-- Text that decodes is the rendering of the bytes it decodes to. -/
theorem hexOfBytes_of_asciiHexToBytes : ∀ {text bytes : List Byte},
    asciiHexToBytes text = some bytes → hexOfBytes bytes = text
  | [], bytes, h => by simp [asciiHexToBytes] at h; simp [h]
  | [_], _, h => by simp [asciiHexToBytes] at h
  | hi :: lo :: rest, bytes, h => by
    simp only [asciiHexToBytes] at h
    split at h
    · rename_i h1 l1 out e1 e2 e3
      cases h
      have ih := hexOfBytes_of_asciiHexToBytes e3
      have hx : ∀ a b : BitVec 4,
          (BitVec.ofNat 8 (a.toNat * 16 + b.toNat)).extractLsb' 4 4 = a ∧
          (BitVec.ofNat 8 (a.toNat * 16 + b.toNat)).extractLsb' 0 4 = b := by decide
      simp [hx, ih, hexChar_of_hexVal e1, hexChar_of_hexVal e2]
    · cases h

@[simp] theorem bytes_one : Config.ValueWidth.one.bytes = 1 := rfl
@[simp] theorem bytes_two : Config.ValueWidth.two.bytes = 2 := rfl
@[simp] theorem bytes_four : Config.ValueWidth.four.bytes = 4 := rfl

/-- No value is wider than four bytes. -/
theorem bytes_le_four (width : Config.ValueWidth) : width.bytes ≤ 4 := by cases width <;> simp

/-- `ValueToAsciiHex` inside its domain is the rendering of the bytes in wire order (R115). -/
theorem valueToAsciiHex_bytes (lsbFirst : Bool) (value : Word) (width : Config.ValueWidth) :
    valueToAsciiHex lsbFirst value width.bytes = some (hexOfBytes (wireBytes lsbFirst value width)) := by
  cases width <;> rfl

/-- A value has as many bytes on the wire as its width says. -/
@[simp] theorem wireBytes_length (lsbFirst : Bool) (value : Word) (width : Config.ValueWidth) :
    (wireBytes lsbFirst value width).length = width.bytes := by
  cases width <;> cases lsbFirst <;> rfl

/-- There is a width of `n` bytes for 1, 2 and 4 alone (R4). -/
theorem ofBytes_eq_none {n : Nat} (h : n ∉ [1, 2, 4]) : Config.ValueWidth.ofBytes n = none := by
  unfold Config.ValueWidth.ofBytes
  split <;> simp_all

/-- The big-endian ADDR field is the two bytes of the unit address, high byte first (R47). -/
theorem addrField_eq (u : UnitAddr) :
    addrField u = hexOfBytes [u.extractLsb' 8 8, u.extractLsb' 0 8] := by
  have e : ∀ k, k ≤ 3 → BitVec.ofNat 4 (u.toNat / 16 ^ k) = u.extractLsb' (4 * k) 4 := by
    intro k _
    apply BitVec.eq_of_toNat_eq
    simp [Nat.shiftRight_eq_div_pow, pow_mul]
  have e3 := e 3 (by omega); have e2 := e 2 (by omega); have e1 := e 1 (by omega); have e0 := e 0 (by omega)
  have x3 : (u.extractLsb' 8 8).extractLsb' 4 4 = u.extractLsb' 12 4 := by
    apply BitVec.eq_of_toNat_eq; simp [Nat.shiftRight_eq_div_pow]; try omega
  have x2 : (u.extractLsb' 8 8).extractLsb' 0 4 = u.extractLsb' 8 4 := by
    apply BitVec.eq_of_toNat_eq; simp [Nat.shiftRight_eq_div_pow]; try omega
  have x1 : (u.extractLsb' 0 8).extractLsb' 4 4 = u.extractLsb' 4 4 := by
    apply BitVec.eq_of_toNat_eq; simp [Nat.shiftRight_eq_div_pow]; try omega
  have x0 : (u.extractLsb' 0 8).extractLsb' 0 4 = u.extractLsb' 0 4 := by
    apply BitVec.eq_of_toNat_eq; simp [Nat.shiftRight_eq_div_pow]; try omega
  simp only [addrField, asciiHex, hexDigits, List.range_succ, List.range_zero, hexOfBytes_cons, hexOfBytes_nil, x3, x2, x1, x0]
  simp at e3 e2 e1 e0
  simp [e3, e2, e1, e0]

/-- The ADDR field of SET and RESET is the same two bytes, low byte first (R48). -/
theorem bitAddrField_eq (u : UnitAddr) :
    bitAddrField u = hexOfBytes [u.extractLsb' 0 8, u.extractLsb' 8 8] := by
  have h := addrField_eq u
  have hs : bitAddrField u = swapPairs (addrField u) := rfl
  rw [hs, h]
  simp [swapPairs]

@[simp] theorem addrField_length (u : UnitAddr) : (addrField u).length = 4 := by simp [addrField_eq]

@[simp] theorem bitAddrField_length (u : UnitAddr) : (bitAddrField u).length = 4 := by simp [bitAddrField_eq]

@[simp] theorem lenField_length (n : Nat) : (lenField n).length = 2 := rfl

@[simp] theorem checksumAscii_length (range : List Byte) : (checksumAscii range).length = 2 := rfl

@[simp] theorem frameOf_length (body : List Byte) : (frameOf body).length = body.length + 4 := by
  simp [frameOf]

/-- Taking a built frame apart gives its body (R120). -/
@[simp] theorem unframe_frameOf (body : List Byte) : unframe (frameOf body) = .ok body := by
  have h : (body ++ ([etx] ++ checksumAscii (body ++ [etx]))).length - 3 = body.length := by simp
  simp only [frameOf, unframe, List.append_assoc, List.cons_append, List.nil_append, ne_eq, not_true_eq_false, if_false]
  simp [checksumAscii]

/-- A sequence that comes apart is the frame of its body. -/
theorem frameOf_of_unframe {bytes body : List Byte} (h : unframe bytes = .ok body) : frameOf body = bytes := by
  unfold unframe at h
  split at h
  · cases h
  · rename_i first rest
    split at h
    · cases h
    · rename_i hf
      dsimp only at h
      split at h
      · cases h
      · rename_i he
        split at h
        · cases h
        · rename_i hc
          cases h
          simp only [ne_eq, not_not] at hf he hc
          have ht : rest.drop (rest.length - 3) = etx :: checksumAscii (rest.take (rest.length - 3) ++ [etx]) := by
            cases hd : rest.drop (rest.length - 3) with
            | nil => simp [hd] at he
            | cons x xs => rw [hd] at he hc; simp at he hc; rw [he, hc]
          simp only [frameOf, hf, List.append_assoc, List.cons_append, List.nil_append]
          rw [← ht, List.take_append_drop]

/-- A unit address is its two bytes. -/
theorem addr_of_bytes (u : UnitAddr) : u.extractLsb' 8 8 ++ u.extractLsb' 0 8 = u := by
  apply BitVec.eq_of_getLsbD_eq
  intro i hi
  rw [BitVec.getLsbD_append]
  rcases Nat.lt_or_ge i 8 with h | h
  · simp [h]
  · have : i - 8 < 8 := by omega
    simp [Nat.not_lt.mpr h, this, Nat.add_sub_cancel' h]

/-- The big-endian ADDR field decodes to its unit address. -/
@[simp] theorem decodeAddrField_addrField (u : UnitAddr) : decodeAddrField false (addrField u) = some u := by
  simp [decodeAddrField, addrField_eq, -hexOfBytes_cons, addr_of_bytes]

/-- The byte-pair reversed ADDR field decodes to its unit address. -/
@[simp] theorem decodeAddrField_bitAddrField (u : UnitAddr) : decodeAddrField true (bitAddrField u) = some u := by
  simp [decodeAddrField, bitAddrField_eq, -hexOfBytes_cons, addr_of_bytes]

end Sys2Proof.Machine
end

