-- ==== Sys2Proof/Laws/Commands.lean ====
section
/-! SUPPORT. What each shared operation of the meanings can do, said once: the cases of the local phase of a command
(R188), of a read response (R152), and of the instructions as a whole. Later proofs cite these and do not unfold the
meanings. -/

namespace Sys2Proof.Machine

/-- The local phase of a read command: a bad address, an address that does not resolve, or a built frame (R160). -/
theorem readCommand_cases (n : Config.ValueWidth) (addr : List Byte) (s : State) :
    (∃ e, parseAddress addr = .error e ∧ readCommand n addr s = .next (s.raise e)) ∨
    (∃ area o e, parseAddress addr = .ok (area, o) ∧ resolve s.config area o true = .error e ∧
      readCommand n addr s = .next ((s.setParsed area o).raise e)) ∨
    (∃ area o u, parseAddress addr = .ok (area, o) ∧ resolve s.config area o true = .ok u ∧
      readCommand n addr s =
        .next ((((s.setParsed area o).setUaddr u).setLen n.bytes).setFrame (buildRead u n.bytes)
          (2 * n.bytes + 4))) := by
  unfold readCommand
  split
  · rename_i e h; exact .inl ⟨e, h, rfl⟩
  · rename_i area o h
    split
    · rename_i e hr; exact .inr (.inl ⟨area, o, e, h, hr, rfl⟩)
    · rename_i u hr; exact .inr (.inr ⟨area, o, u, h, hr, rfl⟩)

/-- The local phase of a byte-operation write command (R170). -/
theorem writeCommand_cases (n : Config.ValueWidth) (addr : List Byte) (wdata : Word) (s : State) :
    (∃ e, parseAddress addr = .error e ∧ writeCommand n addr wdata s = .next (s.raise e)) ∨
    (∃ area o e, parseAddress addr = .ok (area, o) ∧ resolve s.config area o true = .error e ∧
      writeCommand n addr wdata s = .next ((s.setParsed area o).raise e)) ∨
    (∃ area o u, parseAddress addr = .ok (area, o) ∧ resolve s.config area o true = .ok u ∧
      writeCommand n addr wdata s =
        .next ((((s.setParsed area o).setUaddr u).setLen n.bytes).setFrame
          (buildWrite u n.bytes (wireBytes s.config.dataLsbFirst wdata n)) 1)) := by
  unfold writeCommand
  split
  · rename_i e h; exact .inl ⟨e, h, rfl⟩
  · rename_i area o h
    split
    · rename_i e hr; exact .inr (.inl ⟨area, o, e, h, hr, rfl⟩)
    · rename_i u hr; exact .inr (.inr ⟨area, o, u, h, hr, rfl⟩)

/-- The local phase of WR_BIT (R171). -/
theorem execWrBit_cases (addr : List Byte) (wdata : Word) (s : State) :
    (∃ e, parseAddress addr = .error e ∧ execWrBit addr wdata s = .next (s.raise e)) ∨
    (∃ area o e, parseAddress addr = .ok (area, o) ∧ resolve s.config area o false = .error e ∧
      execWrBit addr wdata s = .next ((s.setParsed area o).raise e)) ∨
    (∃ area o u, parseAddress addr = .ok (area, o) ∧ resolve s.config area o false = .ok u ∧
      execWrBit addr wdata s =
        .next (((s.setParsed area o).setUaddr u).setFrame (buildBit u (wdata.getLsbD 0)) 1)) := by
  unfold execWrBit
  split
  · rename_i e h; exact .inl ⟨e, h, rfl⟩
  · rename_i area o h
    split
    · rename_i e hr; exact .inr (.inl ⟨area, o, e, h, hr, rfl⟩)
    · rename_i u hr; exact .inr (.inr ⟨area, o, u, h, hr, rfl⟩)

/-- A read response is malformed, or delivers its value (R152). -/
theorem readResponse_cases (n : Nat) (rx : List Byte) (deliver : Word → Word) (s : State) :
    (interpretRead s.config.dataLsbFirst n rx = none ∧
      readResponse n rx deliver s = .next (s.raise .invalidFrame)) ∨
    (∃ v, interpretRead s.config.dataLsbFirst n rx = some v ∧
      readResponse n rx deliver s = .next (s.completeRead (deliver v))) := by
  unfold readResponse
  split
  · rename_i h; exact .inl ⟨h, rfl⟩
  · rename_i v h; exact .inr ⟨v, h, rfl⟩

/-- What any instruction can do to the state: end the command (before or after its address was parsed), build its
request frame, or send a frame. -/
theorem exec_cases (i : Instr) (s : State) :
    (∃ e a v, exec i s = .next (s.finish e a v)) ∨
    (∃ area o e, exec i s = .next ((s.setParsed area o).finish e false s.rdata)) ∨
    (∃ area o u n f k, exec i s = .next ((((s.setParsed area o).setUaddr u).setLen n).setFrame f k)) ∨
    (∃ area o u f k, exec i s = .next (((s.setParsed area o).setUaddr u).setFrame f k)) ∨
    (∃ f, exec i s = .next (s.send f)) := by
  have read : ∀ n addr, exec i s = readCommand n addr s →
      (∃ e a v, exec i s = .next (s.finish e a v)) ∨
      (∃ area o e, exec i s = .next ((s.setParsed area o).finish e false s.rdata)) ∨
      (∃ area o u n f k, exec i s = .next ((((s.setParsed area o).setUaddr u).setLen n).setFrame f k)) := by
    intro n addr hx
    obtain ⟨e, -, h⟩ | ⟨area, o, e, -, -, h⟩ | ⟨area, o, u, -, -, h⟩ := readCommand_cases n addr s
    · exact .inl ⟨e, false, s.rdata, hx.trans h⟩
    · exact .inr (.inl ⟨area, o, e, hx.trans h⟩)
    · exact .inr (.inr ⟨area, o, u, n.bytes, _, _, hx.trans h⟩)
  have write : ∀ n addr w, exec i s = writeCommand n addr w s →
      (∃ e a v, exec i s = .next (s.finish e a v)) ∨
      (∃ area o e, exec i s = .next ((s.setParsed area o).finish e false s.rdata)) ∨
      (∃ area o u n f k, exec i s = .next ((((s.setParsed area o).setUaddr u).setLen n).setFrame f k)) := by
    intro n addr w hx
    obtain ⟨e, -, h⟩ | ⟨area, o, e, -, -, h⟩ | ⟨area, o, u, -, -, h⟩ := writeCommand_cases n addr w s
    · exact .inl ⟨e, false, s.rdata, hx.trans h⟩
    · exact .inr (.inl ⟨area, o, e, hx.trans h⟩)
    · exact .inr (.inr ⟨area, o, u, n.bytes, _, _, hx.trans h⟩)
  have response : ∀ n rx d, exec i s = readResponse n rx d s → ∃ e a v, exec i s = .next (s.finish e a v) := by
    intro n rx d hx
    obtain ⟨-, h⟩ | ⟨v, -, h⟩ := readResponse_cases n rx d s
    · exact ⟨_, _, _, hx.trans h⟩
    · exact ⟨_, _, _, hx.trans h⟩
  cases i with
  | rdBit a => exact (read .one a rfl).imp_right (Or.imp_right .inl)
  | rdByte a => exact (read .one a rfl).imp_right (Or.imp_right .inl)
  | rdU16 a => exact (read .two a rfl).imp_right (Or.imp_right .inl)
  | rdU32 a => exact (read .four a rfl).imp_right (Or.imp_right .inl)
  | rdF32 a => exact (read .four a rfl).imp_right (Or.imp_right .inl)
  | wrBit a w =>
    obtain ⟨e, -, h⟩ | ⟨area, o, e, -, -, h⟩ | ⟨area, o, u, -, -, h⟩ := execWrBit_cases a w s
    · exact .inl ⟨e, false, s.rdata, h⟩
    · exact .inr (.inl ⟨area, o, e, h⟩)
    · exact .inr (.inr (.inr (.inl ⟨area, o, u, _, _, h⟩)))
  | wrByte a w => exact (write .one a w rfl).imp_right (Or.imp_right .inl)
  | wrU16 a w => exact (write .two a w rfl).imp_right (Or.imp_right .inl)
  | wrU32 a w => exact (write .four a w rfl).imp_right (Or.imp_right .inl)
  | wrF32 a w => exact (write .four a w rfl).imp_right (Or.imp_right .inl)
  | reserved0101 => exact .inl ⟨_, _, _, rfl⟩
  | reserved0110 => exact .inl ⟨_, _, _, rfl⟩
  | reserved0111 => exact .inl ⟨_, _, _, rfl⟩
  | reserved1101 => exact .inl ⟨_, _, _, rfl⟩
  | reserved1110 => exact .inl ⟨_, _, _, rfl⟩
  | reserved1111 => exact .inl ⟨_, _, _, rfl⟩
  | read1 u => exact .inr (.inr (.inr (.inr ⟨_, rfl⟩)))
  | read2 u => exact .inr (.inr (.inr (.inr ⟨_, rfl⟩)))
  | read4 u => exact .inr (.inr (.inr (.inr ⟨_, rfl⟩)))
  | write1 u d0 => exact .inr (.inr (.inr (.inr ⟨_, rfl⟩)))
  | write2 u d0 d1 => exact .inr (.inr (.inr (.inr ⟨_, rfl⟩)))
  | write4 u d0 d1 d2 d3 => exact .inr (.inr (.inr (.inr ⟨_, rfl⟩)))
  | setBit u => exact .inr (.inr (.inr (.inr ⟨_, rfl⟩)))
  | resetBit u => exact .inr (.inr (.inr (.inr ⟨_, rfl⟩)))
  | ack k => exact .inl ⟨_, _, _, rfl⟩
  | rdresp1 c0 c1 s0 s1 => exact .inl (response 1 _ _ rfl)
  | rdresp2 c0 c1 c2 c3 s0 s1 => exact .inl (response 2 _ _ rfl)
  | rdresp4 c0 c1 c2 c3 c4 c5 c6 c7 s0 s1 => exact .inl (response 4 _ _ rfl)

/-- Every instruction answers a next state. -/
theorem exec_next (i : Instr) (s : State) : ∃ t, exec i s = .next t := by
  obtain ⟨_, _, _, h⟩ | ⟨_, _, _, h⟩ | ⟨_, _, _, _, _, _, h⟩ | ⟨_, _, _, _, _, h⟩ | ⟨_, h⟩ := exec_cases i s <;>
    exact ⟨_, h⟩

end Sys2Proof.Machine
end

