-- ==== Sys2Proof/Laws/Environment.lean ====
section
/-! SUPPORT. Laws of the environment's moves: which requesters are blocked, what a submission makes of the waiting
commands, and the cases of a move, said once. -/

namespace Sys2Proof.Machine

/-- A requester is blocked by its command in flight or by one that waits (R201). -/
theorem blocked_iff {s : State} {req : Nat} :
    s.blocked req = true ↔ (s.lock = true ∧ req = s.cmdReq) ∨ ∃ c ∈ s.waiting, req = c.req := by
  have h : ∀ n, (n == req) = true ↔ req = n := fun n => by rw [beq_iff_eq]; exact eq_comm
  simp only [State.blocked, Bool.or_eq_true, Bool.and_eq_true, List.any_eq_true, h]

/-- A requester is free when neither holds. -/
theorem blocked_eq_false_iff {s : State} {req : Nat} :
    s.blocked req = false ↔ (s.lock = true → req ≠ s.cmdReq) ∧ ∀ c ∈ s.waiting, req ≠ c.req := by
  rw [← Bool.not_eq_true, blocked_iff]
  push Not
  rfl

/-- A submission adds its command and keeps the others, in some order. -/
theorem insertAt_perm (place : Nat) (c : Command) (waiting : List Command) :
    (insertAt place c waiting).Perm (c :: waiting) := by
  unfold insertAt
  exact List.perm_middle.trans (by rw [List.take_append_drop])

/-- At the place after `before` the command stands between `before` and the rest (R144). -/
theorem insertAt_append (before after : List Command) (c : Command) :
    insertAt before.length c (before ++ after) = before ++ c :: after := by
  simp [insertAt]

/-- What a move of the environment can do: a submission that is taken, one that is no run of the system, or an update of
what the move names. -/
theorem environmentMove_cases (m : Move) (s : State) :
    (∃ place c, m = .submit place c ∧ c.wellFormed = true ∧ s.blocked c.req = false ∧
      environmentMove m s = .next { s with waiting := insertAt place c s.waiting }) ∨
    (∃ place c, m = .submit place c ∧ (c.wellFormed = false ∨ s.blocked c.req = true) ∧
      ∃ r, environmentMove m s = .refused r) ∨
    (m = .engine ∧ environmentMove m s = .next s) ∨
    (∃ d, m = .tick d ∧ environmentMove m s = .next { s with clock := s.clock + d }) ∨
    (∃ bytes, m = .arrive bytes ∧ environmentMove m s = .next { s with rxq := s.rxq ++ bytes }) ∨
    (∃ v, m = .writeTimeout v ∧ environmentMove m s = .next { s with timeout := v }) ∨
    (∃ v, m = .writePollInterval v ∧ environmentMove m s = .next { s with pollInterval := v }) ∨
    (∃ r, m = .readReg r ∧ environmentMove m s = .next { s with readLog := s.readLog ++ [(r, s.readReg r)] }) ∨
    (∃ k, m = .shortRead k ∧ environmentMove m s = .next { s with chReadLimit := some k }) ∨
    (m = .reset ∧ environmentMove m s = .next s.engineReset) := by
  cases m with
  | submit place c =>
    cases hw : c.wellFormed with
    | false => exact .inr (.inl ⟨place, c, rfl, .inl hw, .commandNotSubmittable, by simp [environmentMove, hw]⟩)
    | true =>
      cases hb : s.blocked c.req with
      | false => exact .inl ⟨place, c, rfl, hw, hb, by simp [environmentMove, hw, hb]⟩
      | true => exact .inr (.inl ⟨place, c, rfl, .inr hb, .requesterBlocked, by simp [environmentMove, hw, hb]⟩)
  | engine => simp [environmentMove]
  | tick d => simp [environmentMove]
  | arrive bytes => simp [environmentMove]
  | writeTimeout v => simp [environmentMove]
  | writePollInterval v => simp [environmentMove]
  | readReg r => simp [environmentMove]
  | shortRead k => simp [environmentMove]
  | reset => simp [environmentMove]

end Sys2Proof.Machine
end

