-- ==== Sys2Proof/Laws/Operands.lean ====
section
/-! SUPPORT. Laws of the operand forms: when a digit character counts, when the range check of `Resolve` passes, and that
parsing and resolving fail in no other way than the spec's. -/

namespace Sys2Proof.Machine

/-- The base of every area is one of two. -/
theorem areaBase_eq (a : Area) : areaBase a = 8 ∨ areaBase a = 10 := by cases a <;> simp [areaBase]

/-- Which characters are digits of a base, and their values (R93). -/
theorem digitVal_eq_some {base : Nat} {c : Byte} {d : Nat} (hb : base ≤ 10) :
    digitVal base c = some d ↔ 0x30 ≤ c.toNat ∧ c.toNat < 0x30 + base ∧ d = c.toNat - 0x30 := by
  unfold digitVal
  split
  · rename_i h; simp only [Option.some.injEq]; omega
  · rename_i h; simp only [reduceCtorEq, false_iff]; omega

/-- The range check passes exactly up to 0xFFFF, and then keeps the number (R107). -/
theorem checkRange_eq_ok {n : Nat} {u : UnitAddr} : checkRange n = .ok u ↔ n ≤ 0xFFFF ∧ u.toNat = n := by
  have hu := u.isLt
  unfold checkRange
  split
  · simp only [reduceCtorEq, false_iff]; omega
  · simp only [Except.ok.injEq, ← BitVec.toNat_inj, BitVec.toNat_ofNat]; omega

/-- Above 0xFFFF it is `InvalidAddress` and nothing else (R107). -/
theorem checkRange_eq_error {n : Nat} {e : Err} : checkRange n = .error e ↔ 0xFFFF < n ∧ e = .invalidAddress := by
  unfold checkRange
  split
  · simp only [Except.error.injEq]; tauto
  · simp only [reduceCtorEq, false_iff]; omega

/-- Parsing fails as `InvalidAddress` and in no other way (R90). -/
theorem parseAddress_error {addr : List Byte} {e : Err} (h : parseAddress addr = .error e) : e = .invalidAddress := by
  unfold parseAddress at h
  repeat' split at h
  all_goals cases h
  all_goals rfl

/-- A byte operation resolves by its formula and the range check alone (R95). -/
theorem resolve_byte (st : Straps) (a : Area) (o : UnitAddr) :
    resolve st a o true = checkRange (byteFormula a o.toNat) := rfl

/-- A byte operation is never unsupported (R182). -/
theorem resolve_byte_error {st : Straps} {a : Area} {o : UnitAddr} {e : Err} (h : resolve st a o true = .error e) :
    e = .invalidAddress :=
  (checkRange_eq_error.mp h).2

end Sys2Proof.Machine
end

