-- ==== Sys2Proof/Laws/PerInstr.lean ====
section
/-! SUPPORT. Per instruction: the encoder gives the row of spec/opcode_table.json. The row is written here from the
table: its number of bits, and its fixed opcode (a host row) or second byte (a request row). -/

namespace Sys2Proof.Laws.TableRow

open Sys2Proof.Machine

/-- The table's number of bits of each row and what names it: the opcode of a host row (R62, R63), the function code of
a request row (R66), 0 for a response. -/
def row : Instr → Nat × Nat
  | .rdBit _ => (4, 0x0)
  | .rdByte _ => (4, 0x1)
  | .rdU16 _ => (4, 0x2)
  | .rdU32 _ => (4, 0x3)
  | .rdF32 _ => (4, 0x4)
  | .wrBit _ _ => (4, 0x8)
  | .wrByte _ _ => (4, 0x9)
  | .wrU16 _ _ => (4, 0xA)
  | .wrU32 _ _ => (4, 0xB)
  | .wrF32 _ _ => (4, 0xC)
  | .reserved0101 => (4, 0x5)
  | .reserved0110 => (4, 0x6)
  | .reserved0111 => (4, 0x7)
  | .reserved1101 => (4, 0xD)
  | .reserved1110 => (4, 0xE)
  | .reserved1111 => (4, 0xF)
  | .read1 _ => (88, 0x30)
  | .read2 _ => (88, 0x30)
  | .read4 _ => (88, 0x30)
  | .write1 _ _ => (104, 0x31)
  | .write2 _ _ _ => (120, 0x31)
  | .write4 _ _ _ _ _ => (152, 0x31)
  | .setBit _ => (72, 0x37)
  | .resetBit _ => (72, 0x38)
  | .ack _ => (8, 0)
  | .rdresp1 _ _ _ _ => (48, 0)
  | .rdresp2 _ _ _ _ _ _ => (64, 0)
  | .rdresp4 _ _ _ _ _ _ _ _ _ _ => (96, 0)

/-- The same two numbers, read from a code. -/
def rowOfCode : Code → Nat × Nat
  | .command op _ _ => (4, op.toNat)
  | .request bytes => (8 * bytes.length, (bytes.getD 1 0).toNat)
  | .response bytes => (8 * bytes.length, 0)

/-- The encoding of an instruction has the width and the fixed part of its row. -/
def Statement (i : Instr) : Prop := rowOfCode (encode i) = row i

theorem rdBit (a) : Statement (.rdBit a) := rfl
theorem rdByte (a) : Statement (.rdByte a) := rfl
theorem rdU16 (a) : Statement (.rdU16 a) := rfl
theorem rdU32 (a) : Statement (.rdU32 a) := rfl
theorem rdF32 (a) : Statement (.rdF32 a) := rfl
theorem wrBit (a w) : Statement (.wrBit a w) := rfl
theorem wrByte (a w) : Statement (.wrByte a w) := rfl
theorem wrU16 (a w) : Statement (.wrU16 a w) := rfl
theorem wrU32 (a w) : Statement (.wrU32 a w) := rfl
theorem wrF32 (a w) : Statement (.wrF32 a w) := rfl
theorem reserved0101 : Statement .reserved0101 := rfl
theorem reserved0110 : Statement .reserved0110 := rfl
theorem reserved0111 : Statement .reserved0111 := rfl
theorem reserved1101 : Statement .reserved1101 := rfl
theorem reserved1110 : Statement .reserved1110 := rfl
theorem reserved1111 : Statement .reserved1111 := rfl
theorem read1 (u) : Statement (.read1 u) :=
  Prod.ext (by simp [rowOfCode, encode, row, buildRead]) rfl
theorem read2 (u) : Statement (.read2 u) :=
  Prod.ext (by simp [rowOfCode, encode, row, buildRead]) rfl
theorem read4 (u) : Statement (.read4 u) :=
  Prod.ext (by simp [rowOfCode, encode, row, buildRead]) rfl
theorem write1 (u d0) : Statement (.write1 u d0) :=
  Prod.ext (by simp [rowOfCode, encode, row, buildWrite]) rfl
theorem write2 (u d0 d1) : Statement (.write2 u d0 d1) :=
  Prod.ext (by simp [rowOfCode, encode, row, buildWrite]) rfl
theorem write4 (u d0 d1 d2 d3) : Statement (.write4 u d0 d1 d2 d3) :=
  Prod.ext (by simp [rowOfCode, encode, row, buildWrite]) rfl
theorem setBit (u) : Statement (.setBit u) :=
  Prod.ext (by simp [rowOfCode, encode, row, buildBit]) rfl
theorem resetBit (u) : Statement (.resetBit u) :=
  Prod.ext (by simp [rowOfCode, encode, row, buildBit]) rfl
theorem ack (k) : Statement (.ack k) := rfl
theorem rdresp1 (c0 c1 s0 s1) : Statement (.rdresp1 c0 c1 s0 s1) := rfl
theorem rdresp2 (c0 c1 c2 c3 s0 s1) : Statement (.rdresp2 c0 c1 c2 c3 s0 s1) := rfl
theorem rdresp4 (c0 c1 c2 c3 c4 c5 c6 c7 s0 s1) : Statement (.rdresp4 c0 c1 c2 c3 c4 c5 c6 c7 s0 s1) := rfl

end Sys2Proof.Laws.TableRow
end

