-- ==== Sys2Proof/Laws/Step.lean ====
section
/-! SUPPORT. What one step can do, said once: the cases of a step of the system, of a step of the engine and of a poll.
Later proofs derive what they need from these and do not unfold the step. -/

namespace Sys2Proof.Machine

/-- A step is the engine's when the schedule is empty or begins with `Move.engine`; otherwise it is the first move. -/
theorem step_cases (s : State) :
    (s.schedule = [] ∧ step s = engineStep s) ∨
    (∃ rest, s.schedule = .engine :: rest ∧ step s = engineStep { s with schedule := rest }) ∨
    (∃ m rest, m ≠ .engine ∧ s.schedule = m :: rest ∧ step s = environmentMove m { s with schedule := rest }) := by
  unfold step systemStep
  split
  · rename_i h; exact .inl ⟨h, rfl⟩
  · rename_i rest h; exact .inr (.inl ⟨rest, h, rfl⟩)
  · rename_i m rest hm h; exact .inr (.inr ⟨m, rest, hm, h, rfl⟩)

/-- What the engine fetches, and in which states (R21). -/
theorem fetch_cases {s : State} {code : Code} (h : fetch s = some code) :
    s.lock = true ∧
    ((s.tstate = .idle ∧ s.frameReady = true ∧ code = .request (s.txBuf.take s.txLen.toNat)) ∨
     (s.tstate = .idle ∧ s.frameReady = false ∧ code = .command s.cmdOp s.latchedAddr s.cmdWdata) ∨
     (s.tstate = .complete ∧ s.expectN.toNat ≤ s.rxGot ∧ code = .response (s.rxBuf.take s.expectN.toNat))) := by
  unfold fetch at h
  split at h
  · rename_i hl
    refine ⟨hl, ?_⟩
    split at h
    · rename_i ht
      split at h
      · rename_i hf; exact .inl ⟨ht, hf, by simpa using h.symm⟩
      · rename_i hf; exact .inr (.inl ⟨ht, by simpa using hf, by simpa using h.symm⟩)
    · cases h
    · cases h
    · rename_i ht
      split at h
      · cases h
      · rename_i hg; exact .inr (.inr ⟨ht, by omega, by simpa using h.symm⟩)
    · cases h
  · cases h

/-- Where the engine fetches nothing, its transition is one of these (R132 to R137, R141, R142, R203). -/
theorem transition_cases {s : State} (h : fetch s = none) :
    (s.lock = false ∧ s.waiting = [] ∧ transition s = s) ∨
    (∃ c rest, s.lock = false ∧ s.waiting = c :: rest ∧ transition s = s.accept c rest) ∨
    (s.lock = true ∧ s.tstate = .sent ∧ transition s = s.recordDeadline) ∨
    (s.lock = true ∧ s.tstate = .awaitingLength ∧ transition s = s.await) ∨
    (s.lock = true ∧ s.tstate = .complete ∧ s.rxGot < s.expectN.toNat ∧ transition s = s.raise .invalidFrame) ∨
    (s.lock = true ∧ s.tstate = .timedOut ∧ transition s = s.raise .timeout) := by
  unfold fetch at h
  unfold transition idleStep
  cases hl : s.lock with
  | false =>
    cases hw : s.waiting with
    | nil => exact .inl ⟨rfl, rfl, by simp⟩
    | cons c rest => exact .inr (.inl ⟨c, rest, rfl, rfl, by simp⟩)
  | true =>
    cases ht : s.tstate with
    | idle => simp [hl, ht] at h; split at h <;> simp at h
    | sent => exact .inr (.inr (.inl ⟨rfl, rfl, by simp⟩))
    | awaitingLength => exact .inr (.inr (.inr (.inl ⟨rfl, rfl, by simp⟩)))
    | complete =>
      refine .inr (.inr (.inr (.inr (.inl ⟨rfl, rfl, ?_, by simp⟩))))
      simpa [hl, ht] using h
    | timedOut => exact .inr (.inr (.inr (.inr (.inr ⟨rfl, rfl, by simp⟩))))

/-- A step in `AwaitingLength`: still waiting, or one poll with its three transitions in their order (R133 to R136). -/
theorem await_cases (s : State) :
    (∃ d, s.pollHold = some d ∧ s.clock < s.tPoll + d.toNat ∧ s.await = s) ∨
    ((∀ d, s.pollHold = some d → s.tPoll + d.toNat ≤ s.clock) ∧
      ((s.expectN.toNat ≤ s.rxq.length ∧ s.await = s.takeResponse) ∨
       (s.rxq.length < s.expectN.toNat ∧ s.deadline < s.clock ∧ s.await = s.giveUp) ∨
       (s.rxq.length < s.expectN.toNat ∧ s.clock ≤ s.deadline ∧ s.await = s.startWait))) := by
  have poll : (s.expectN.toNat ≤ s.rxq.length ∧ s.poll = s.takeResponse) ∨
      (s.rxq.length < s.expectN.toNat ∧ s.deadline < s.clock ∧ s.poll = s.giveUp) ∨
      (s.rxq.length < s.expectN.toNat ∧ s.clock ≤ s.deadline ∧ s.poll = s.startWait) := by
    unfold State.poll State.chAvail
    split
    · exact .inl ⟨by assumption, rfl⟩
    · split
      · exact .inr (.inl ⟨by omega, by assumption, rfl⟩)
      · exact .inr (.inr ⟨by omega, by omega, rfl⟩)
  unfold State.await
  split
  · rename_i hp; exact .inr ⟨by simp [hp], poll⟩
  · rename_i d hp
    split
    · rename_i hc; exact .inl ⟨d, hp, hc, rfl⟩
    · refine .inr ⟨?_, poll⟩
      intro d' hd'
      rw [hp] at hd'; cases hd'; omega

/-- A step of the engine: a transition, a decoded instruction, or bytes that are no instruction. -/
theorem engineStep_cases (s : State) :
    (fetch s = none ∧ engineStep s = .next (transition s)) ∨
    (∃ code i, fetch s = some code ∧ decode code = .ok i ∧ engineStep s = exec i s) ∨
    (∃ code e, fetch s = some code ∧ decode code = .error e ∧ engineStep s = undecoded code s) := by
  unfold engineStep
  split
  · rename_i h; exact .inl ⟨h, rfl⟩
  · rename_i code h
    split
    · rename_i i hd; exact .inr (.inl ⟨code, i, h, hd, rfl⟩)
    · rename_i e hd; exact .inr (.inr ⟨code, e, h, hd, rfl⟩)

end Sys2Proof.Machine
end

