-- ==== Sys2Proof/Tests/Slice0.lean ====
section
/-! SUPPORT. The tests: what WellFormed refuses; words written out from the encodings of spec/30_encoding.md and the
vectors V4, V6 of spec/95_test_vectors.md and what they decode to; one or two steps per instruction with the results of
the vectors V4 to V9; and for every obligation with hypotheses a witness that they can be met, clause by clause. -/

namespace Sys2Proof.Tests

open Sys2Proof Sys2Proof.Machine

/-- The state after reset with the straps of spec/95_test_vectors.md and `TIMEOUT` = 100 (P1), `RDATA` as in V7. -/
def base : State :=
  { State.reset with timeout := 100#32, config := ⟨false, false, true⟩, rdata := 0xDEADBEEF#32 }

/-- A command in flight, right after its acceptance. -/
def inFlight (op : Opcode) (addr : List Byte) (wdata : Word) : State :=
  { base with
    lock := true, status := ⟨true, false, false, .ok⟩, cmdOp := op, cmdReq := 3
    cmdAddr := addr ++ List.replicate (8 - addr.length) 0#8, cmdAddrLen := BitVec.ofNat 4 addr.length
    cmdWdata := wdata }

/-- A transaction waiting for `n` bytes since clock 1000 (V5). -/
def awaiting (op : Opcode) (n : Nat) (rxq : List Byte) (clock : Nat) : State :=
  { inFlight op [] 0 with
    tstate := .awaitingLength, expectN := BitVec.ofNat 10 n, deadline := 1100, clock := clock, rxq := rxq }

/-- The next state, if there is one. -/
def next? (r : Result) : Option State :=
  match r with
  | .next t => some t
  | .fault _ => none
  | .refused _ => none

/-- One field of the next state. -/
def seen {α : Type} (r : Result) (f : State → α) : Option α := (next? r).map f

/-- The request frame in `TXBUF`. -/
def frame (s : State) : List Byte := s.txBuf.take s.txLen.toNat

/-- The two fields of `STATUS` that a completion sets, and `RDATA`. -/
def outcome (s : State) : BitVec 8 × Word := (statusBits s.status, s.rdata)

/-- The table's word of a frame: its first byte in the least significant bits. -/
def wordOf (bytes : List Byte) : Nat := bytes.foldr (fun b w => b.toNat + 256 * w) 0


/-! ### WellFormed: an address string of nine characters is refused for every host command (R12) -/

/-- "D00000000": nine characters. -/
def nine : List Byte := [0x44, 0x30, 0x30, 0x30, 0x30, 0x30, 0x30, 0x30, 0x30]

theorem test_wf_rdBit_refuses_nine : (Instr.rdBit nine).wellFormed = false := by decide
theorem test_wf_rdByte_refuses_nine : (Instr.rdByte nine).wellFormed = false := by decide
theorem test_wf_rdU16_refuses_nine : (Instr.rdU16 nine).wellFormed = false := by decide
theorem test_wf_rdU32_refuses_nine : (Instr.rdU32 nine).wellFormed = false := by decide
theorem test_wf_rdF32_refuses_nine : (Instr.rdF32 nine).wellFormed = false := by decide
theorem test_wf_wrBit_refuses_nine : (Instr.wrBit nine 0).wellFormed = false := by decide
theorem test_wf_wrByte_refuses_nine : (Instr.wrByte nine 0).wellFormed = false := by decide
theorem test_wf_wrU16_refuses_nine : (Instr.wrU16 nine 0).wellFormed = false := by decide
theorem test_wf_wrU32_refuses_nine : (Instr.wrU32 nine 0).wellFormed = false := by decide
theorem test_wf_wrF32_refuses_nine : (Instr.wrF32 nine 0).wellFormed = false := by decide
/-- Eight characters fit: the boundary. -/
theorem test_wf_accepts_eight :
    (Instr.rdU16 [0x44, 0x30, 0x30, 0x30, 0x30, 0x30, 0x30, 0x30]).wellFormed = true :=
  by decide
theorem test_wf_command_refuses_nine : Command.wellFormed ⟨0b0010#4, 0, nine, 0⟩ = false := by decide
/-- A reserved opcode carries no operand, so nothing of it can be ill-formed (R63). -/
theorem test_wf_reserved_has_no_operand : Instr.wellFormed (decodeCommand 0b1111#4 nine 0) = true := by decide

/-! ### Decoding: words written out from the encodings, one for every constructor -/

theorem test_decode_rdBit : decodeTableWord 8 0b0000 = some (.rdBit []) := by decide
theorem test_decode_rdByte : decodeTableWord 8 0b0001 = some (.rdByte []) := by decide
theorem test_decode_rdU16 : decodeTableWord 8 0b0010 = some (.rdU16 []) := by decide
theorem test_decode_rdU32 : decodeTableWord 8 0b0011 = some (.rdU32 []) := by decide
theorem test_decode_rdF32 : decodeTableWord 8 0b0100 = some (.rdF32 []) := by decide
theorem test_decode_reserved0101 : decodeTableWord 8 0b0101 = some (.reserved0101) := by decide
theorem test_decode_reserved0110 : decodeTableWord 8 0b0110 = some (.reserved0110) := by decide
theorem test_decode_reserved0111 : decodeTableWord 8 0b0111 = some (.reserved0111) := by decide
theorem test_decode_wrBit : decodeTableWord 8 0b1000 = some (.wrBit [] 0) := by decide
theorem test_decode_wrByte : decodeTableWord 8 0b1001 = some (.wrByte [] 0) := by decide
theorem test_decode_wrU16 : decodeTableWord 8 0b1010 = some (.wrU16 [] 0) := by decide
theorem test_decode_wrU32 : decodeTableWord 8 0b1011 = some (.wrU32 [] 0) := by decide
theorem test_decode_wrF32 : decodeTableWord 8 0b1100 = some (.wrF32 [] 0) := by decide
theorem test_decode_reserved1101 : decodeTableWord 8 0b1101 = some (.reserved1101) := by decide
theorem test_decode_reserved1110 : decodeTableWord 8 0b1110 = some (.reserved1110) := by decide
theorem test_decode_reserved1111 : decodeTableWord 8 0b1111 = some (.reserved1111) := by decide
theorem test_decode_read1 :
    decodeTableWord 88 (wordOf [0x02, 0x30, 0x30, 0x31, 0x31, 0x32, 0x30, 0x31, 0x03, 0x35, 0x38]) =
      some (.read1 0x0112) :=
  by decide
theorem test_decode_read2 :
    decodeTableWord 88 (wordOf [0x02, 0x30, 0x31, 0x30, 0x30, 0x30, 0x30, 0x32, 0x03, 0x35, 0x36]) =
      some (.read2 0x1000) :=
  by decide
theorem test_decode_read4 :
    decodeTableWord 88 (wordOf [0x02, 0x30, 0x34, 0x45, 0x37, 0x45, 0x30, 0x34, 0x03, 0x38, 0x43]) =
      some (.read4 0x4E7E) :=
  by decide
theorem test_decode_write1 :
    decodeTableWord 104 (wordOf [0x02, 0x31, 0x30, 0x31, 0x30, 0x31, 0x30, 0x31, 0x41, 0x35, 0x03, 0x43, 0x44]) =
      some (.write1 0x0101 0xA5) :=
  by decide
theorem test_decode_write2 :
    decodeTableWord 120 (wordOf [0x02, 0x31, 0x31, 0x30, 0x43, 0x38, 0x30, 0x32, 0x41, 0x42, 0x30, 0x30, 0x03, 0x35, 0x35]) =
      some (.write2 0x10C8 0xAB 0x00) :=
  by decide
theorem test_decode_write4 :
    decodeTableWord 152 (wordOf [0x02, 0x31, 0x31, 0x30, 0x31, 0x34, 0x30, 0x34, 0x37, 0x38, 0x35, 0x36, 0x33, 0x34, 0x31, 0x32, 0x03, 0x30, 0x32]) =
      some (.write4 0x1014 0x78 0x56 0x34 0x12) :=
  by decide
theorem test_decode_setBit :
    decodeTableWord 72 (wordOf [0x02, 0x37, 0x34, 0x30, 0x32, 0x45, 0x03, 0x31, 0x35]) =
      some (.setBit 0x2E40) :=
  by decide
theorem test_decode_resetBit :
    decodeTableWord 72 (wordOf [0x02, 0x38, 0x37, 0x46, 0x30, 0x34, 0x03, 0x31, 0x43]) =
      some (.resetBit 0x047F) :=
  by decide
theorem test_decode_ack : decodeTableWord 8 (wordOf [0x15]) =
      some (.ack 0x15) := by decide
theorem test_decode_rdresp1 :
    decodeTableWord 48 (wordOf [0x02, 0x41, 0x35, 0x03, 0x37, 0x39]) =
      some (.rdresp1 0x41 0x35 0x37 0x39) :=
  by decide
theorem test_decode_rdresp2 :
    decodeTableWord 64 (wordOf [0x02, 0x33, 0x34, 0x31, 0x32, 0x03, 0x43, 0x44]) =
      some (.rdresp2 0x33 0x34 0x31 0x32 0x43 0x44) :=
  by decide
theorem test_decode_rdresp4 :
    decodeTableWord 96 (wordOf [0x02, 0x37, 0x38, 0x35, 0x36, 0x33, 0x34, 0x31, 0x32, 0x03, 0x41, 0x37]) =
      some (.rdresp4 0x37 0x38 0x35 0x36 0x33 0x34 0x31 0x32 0x41 0x37) :=
  by decide

theorem test_reject_bad_checksum :
    decodeRequest [0x02, 0x30, 0x31, 0x30, 0x30, 0x30, 0x30, 0x32, 0x03, 0x35, 0x37] = .error .badChecksum :=
  by decide
theorem test_reject_bad_start :
    decodeRequest [0x15, 0x30, 0x31, 0x30, 0x30, 0x30, 0x30, 0x32, 0x03, 0x35, 0x36] = .error .badStart :=
  by decide
theorem test_reject_bad_end :
    decodeRequest [0x02, 0x30, 0x31, 0x30, 0x30, 0x30, 0x30, 0x32, 0x04, 0x35, 0x37] = .error .badEnd :=
  by decide
theorem test_reject_bad_function_code :
    decodeRequest [0x02, 0x32, 0x31, 0x30, 0x30, 0x30, 0x30, 0x32, 0x03, 0x35, 0x38] = .error .badFunctionCode :=
  by decide
theorem test_reject_bad_length :
    decodeRequest [0x02, 0x30, 0x31, 0x30, 0x30, 0x30, 0x30, 0x33, 0x03, 0x35, 0x37] = .error .badLength :=
  by decide
theorem test_reject_bad_digit :
    decodeRequest [0x02, 0x30, 0x61, 0x30, 0x30, 0x30, 0x30, 0x32, 0x03, 0x38, 0x36] = .error .badDigit :=
  by decide
theorem test_reject_response_start :
    decodeResponse [0x15, 0x33, 0x34, 0x31, 0x32, 0x03, 0x43, 0x44] = .error .badStart :=
  by decide
theorem test_reject_response_end :
    decodeResponse [0x02, 0x33, 0x34, 0x31, 0x32, 0x04, 0x43, 0x44] = .error .badEnd :=
  by decide
theorem test_reject_response_length : decodeResponse [0x02, 0x33] = .error .badLength := by decide

/-! ### Host commands: the frames of V4, V7 and V8, the local faults of V9 -/

theorem test_rdBit_frame :
    seen (exec (.rdBit [0x4D, 0x31, 0x34, 0x36]) (inFlight 0b0000#4 [] 0)) frame =
      some [0x02, 0x30, 0x30, 0x31, 0x31, 0x32, 0x30, 0x31, 0x03, 0x35, 0x38] :=
  by decide
theorem test_rdByte_frame :
    seen (exec (.rdByte [0x58, 0x32, 0x30]) (inFlight 0b0001#4 [] 0)) frame =
      some [0x02, 0x30, 0x30, 0x30, 0x38, 0x32, 0x30, 0x31, 0x03, 0x35, 0x45] :=
  by decide
theorem test_rdU16_frame :
    seen (exec (.rdU16 [0x44, 0x33, 0x30, 0x37, 0x31, 0x39]) (inFlight 0b0010#4 [] 0)) frame =
      some [0x02, 0x30, 0x46, 0x46, 0x46, 0x45, 0x30, 0x32, 0x03, 0x41, 0x43] :=
  by decide
theorem test_rdU32_frame :
    seen (exec (.rdU32 [0x44, 0x37, 0x39, 0x39, 0x39]) (inFlight 0b0011#4 [] 0)) frame =
      some [0x02, 0x30, 0x34, 0x45, 0x37, 0x45, 0x30, 0x34, 0x03, 0x38, 0x43] :=
  by decide
theorem test_rdF32_frame :
    seen (exec (.rdF32 [0x44, 0x32, 0x30]) (inFlight 0b0100#4 [] 0)) frame =
      some [0x02, 0x30, 0x31, 0x30, 0x32, 0x38, 0x30, 0x34, 0x03, 0x36, 0x32] :=
  by decide
theorem test_wrBit_frame :
    seen (exec (.wrBit [0x59, 0x31, 0x30] 1) (inFlight 0b1000#4 [] 0)) frame =
      some [0x02, 0x37, 0x30, 0x38, 0x30, 0x35, 0x03, 0x30, 0x37] :=
  by decide
theorem test_wrByte_frame :
    seen (exec (.wrByte [0x4D, 0x38] 0x1A5) (inFlight 0b1001#4 [] 0)) frame =
      some [0x02, 0x31, 0x30, 0x31, 0x30, 0x31, 0x30, 0x31, 0x41, 0x35, 0x03, 0x43, 0x44] :=
  by decide
theorem test_wrU16_frame :
    seen (exec (.wrU16 [0x44, 0x31, 0x30, 0x30] 0xAB) (inFlight 0b1010#4 [] 0)) frame =
      some [0x02, 0x31, 0x31, 0x30, 0x43, 0x38, 0x30, 0x32, 0x41, 0x42, 0x30, 0x30, 0x03, 0x35, 0x35] :=
  by decide
theorem test_wrU32_frame :
    seen (exec (.wrU32 [0x44, 0x31, 0x30] 0x12345678) (inFlight 0b1011#4 [] 0)) frame =
      some [0x02, 0x31, 0x31, 0x30, 0x31, 0x34, 0x30, 0x34, 0x37, 0x38, 0x35, 0x36, 0x33, 0x34, 0x31, 0x32, 0x03, 0x30, 0x32] :=
  by decide
theorem test_wrF32_frame :
    seen (exec (.wrF32 [0x44, 0x32, 0x30] 0xC0200000) (inFlight 0b1100#4 [] 0)) frame =
      some [0x02, 0x31, 0x31, 0x30, 0x32, 0x38, 0x30, 0x34, 0x30, 0x30, 0x30, 0x30, 0x32, 0x30, 0x43, 0x30, 0x03, 0x46, 0x38] :=
  by decide
theorem test_rdBit_local_fault :
    seen (exec (.rdBit []) (inFlight 0b0000#4 [] 0)) outcome = some (0x0A, 0xDEADBEEF) :=
  by decide
theorem test_rdByte_local_fault :
    seen (exec (.rdByte [0x64, 0x30]) (inFlight 0b0001#4 [] 0)) outcome = some (0x0A, 0xDEADBEEF) :=
  by decide
theorem test_rdU16_local_fault :
    seen (exec (.rdU16 [0x44, 0x33, 0x30, 0x37, 0x32, 0x30]) (inFlight 0b0010#4 [] 0)) outcome = some (0x0A, 0xDEADBEEF) :=
  by decide
theorem test_rdU32_local_fault :
    seen (exec (.rdU32 [0x58, 0x38]) (inFlight 0b0011#4 [] 0)) outcome = some (0x0A, 0xDEADBEEF) :=
  by decide
theorem test_rdF32_local_fault :
    seen (exec (.rdF32 [0x44, 0x36, 0x35, 0x35, 0x33, 0x36]) (inFlight 0b0100#4 [] 0)) outcome = some (0x0A, 0xDEADBEEF) :=
  by decide
theorem test_wrBit_local_fault :
    seen (exec (.wrBit [0x44, 0x34, 0x30, 0x30, 0x30, 0x30] 1) (inFlight 0b1000#4 [] 0)) outcome = some (0x12, 0xDEADBEEF) :=
  by decide
theorem test_wrByte_local_fault :
    seen (exec (.wrByte [0x4D, 0x31, 0x32, 0x61] 1) (inFlight 0b1001#4 [] 0)) outcome = some (0x0A, 0xDEADBEEF) :=
  by decide
theorem test_wrU16_local_fault :
    seen (exec (.wrU16 [0x44] 7) (inFlight 0b1010#4 [] 0)) outcome = some (0x0A, 0xDEADBEEF) :=
  by decide
theorem test_wrU32_local_fault :
    seen (exec (.wrU32 [0x44, 0x31, 0x2E, 0x35] 1) (inFlight 0b1011#4 [] 0)) outcome = some (0x0A, 0xDEADBEEF) :=
  by decide
theorem test_wrF32_local_fault :
    seen (exec (.wrF32 [0x51, 0x30] 1) (inFlight 0b1100#4 [] 0)) outcome = some (0x0A, 0xDEADBEEF) :=
  by decide
theorem test_reserved0101_fault :
    seen (exec .reserved0101 (inFlight 0b0101#4 [] 0)) outcome = some (0x12, 0xDEADBEEF) :=
  by decide
theorem test_reserved0110_fault :
    seen (exec .reserved0110 (inFlight 0b0110#4 [] 0)) outcome = some (0x12, 0xDEADBEEF) :=
  by decide
theorem test_reserved0111_fault :
    seen (exec .reserved0111 (inFlight 0b0111#4 [] 0)) outcome = some (0x12, 0xDEADBEEF) :=
  by decide
theorem test_reserved1101_fault :
    seen (exec .reserved1101 (inFlight 0b1101#4 [] 0)) outcome = some (0x12, 0xDEADBEEF) :=
  by decide
theorem test_reserved1110_fault :
    seen (exec .reserved1110 (inFlight 0b1110#4 [] 0)) outcome = some (0x12, 0xDEADBEEF) :=
  by decide
theorem test_reserved1111_fault :
    seen (exec .reserved1111 (inFlight 0b1111#4 [] 0)) outcome = some (0x12, 0xDEADBEEF) :=
  by decide

/-! ### Request frames: what is written to the channel (V4) -/

theorem test_read1_sent :
    seen (exec (.read1 0x0112) (inFlight 0b0010#4 [] 0)) (·.txlog) =
      some [0x02, 0x30, 0x30, 0x31, 0x31, 0x32, 0x30, 0x31, 0x03, 0x35, 0x38] :=
  by decide
theorem test_read2_sent :
    seen (exec (.read2 0x1000) (inFlight 0b0010#4 [] 0)) (·.txlog) =
      some [0x02, 0x30, 0x31, 0x30, 0x30, 0x30, 0x30, 0x32, 0x03, 0x35, 0x36] :=
  by decide
theorem test_read4_sent :
    seen (exec (.read4 0x4E7E) (inFlight 0b0010#4 [] 0)) (·.txlog) =
      some [0x02, 0x30, 0x34, 0x45, 0x37, 0x45, 0x30, 0x34, 0x03, 0x38, 0x43] :=
  by decide
theorem test_write1_sent :
    seen (exec (.write1 0x0101 0xA5) (inFlight 0b0010#4 [] 0)) (·.txlog) =
      some [0x02, 0x31, 0x30, 0x31, 0x30, 0x31, 0x30, 0x31, 0x41, 0x35, 0x03, 0x43, 0x44] :=
  by decide
theorem test_write2_sent :
    seen (exec (.write2 0x10C8 0xAB 0x00) (inFlight 0b0010#4 [] 0)) (·.txlog) =
      some [0x02, 0x31, 0x31, 0x30, 0x43, 0x38, 0x30, 0x32, 0x41, 0x42, 0x30, 0x30, 0x03, 0x35, 0x35] :=
  by decide
theorem test_write4_sent :
    seen (exec (.write4 0x1014 0x78 0x56 0x34 0x12) (inFlight 0b0010#4 [] 0)) (·.txlog) =
      some [0x02, 0x31, 0x31, 0x30, 0x31, 0x34, 0x30, 0x34, 0x37, 0x38, 0x35, 0x36, 0x33, 0x34, 0x31, 0x32, 0x03, 0x30, 0x32] :=
  by decide
theorem test_setBit_sent :
    seen (exec (.setBit 0x2E40) (inFlight 0b0010#4 [] 0)) (·.txlog) =
      some [0x02, 0x37, 0x34, 0x30, 0x32, 0x45, 0x03, 0x31, 0x35] :=
  by decide
theorem test_resetBit_sent :
    seen (exec (.resetBit 0x047F) (inFlight 0b0010#4 [] 0)) (·.txlog) =
      some [0x02, 0x38, 0x37, 0x46, 0x30, 0x34, 0x03, 0x31, 0x43] :=
  by decide

/-! ### Responses: the completions of V6 and V7 -/

theorem test_ack_success :
    seen (exec (.ack 0x06) (inFlight 0b1000#4 [] 0)) outcome = some (0x06, 0xDEADBEEF) :=
  by decide
theorem test_ack_rejected :
    seen (exec (.ack 0x36) (inFlight 0b1000#4 [] 0)) outcome = some (0x02, 0xDEADBEEF) :=
  by decide
/-- RD_BIT of bit 7 of the byte 0x80. -/
theorem test_rdresp1_bit :
    seen (exec (.rdresp1 0x38 0x30 0x36 0x42) { (inFlight 0b0000#4 [] 0) with bitsel := 7 }) outcome = some (0x02, 1) :=
  by decide
theorem test_rdresp1_byte :
    seen (exec (.rdresp1 0x38 0x30 0x36 0x42) { (inFlight 0b0001#4 [] 0) with bitsel := 7 }) outcome = some (0x02, 0x80) :=
  by decide
theorem test_rdresp2_value :
    seen (exec (.rdresp2 0x33 0x34 0x31 0x32 0x43 0x44) (inFlight 0b0010#4 [] 0)) outcome = some (0x02, 0x1234) :=
  by decide
/-- A lowercase data character under a matching checksum (R114). -/
theorem test_rdresp2_lowercase :
    seen (exec (.rdresp2 0x61 0x34 0x31 0x32 0x46 0x42) (inFlight 0b0010#4 [] 0)) outcome = some (0x1A, 0xDEADBEEF) :=
  by decide
theorem test_rdresp4_value :
    seen (exec (.rdresp4 0x30 0x30 0x30 0x30 0x32 0x30 0x43 0x30 0x39 0x38) (inFlight 0b0100#4 [] 0)) outcome =
      some (0x02, 0xC0200000) :=
  by decide
theorem test_rdresp4_bad_checksum :
    seen (exec (.rdresp4 0x30 0x30 0x30 0x30 0x32 0x30 0x43 0x30 0x39 0x39) (inFlight 0b0011#4 [] 0)) outcome =
      some (0x1A, 0xDEADBEEF) :=
  by decide

/-! ### The transaction engine: polls of V5 -/

/-- V5.4: at the deadline itself the engine waits. -/
theorem test_poll_at_deadline :
    seen (step (awaiting 0b1000#4 1 [] 1100)) (·.tstate) = some .awaitingLength :=
  by decide
theorem test_poll_after_deadline : seen (step (awaiting 0b1000#4 1 [] 1110)) (·.tstate) = some .timedOut := by decide
/-- V5.6, V5.3: availability is tested first; the surplus byte stays. -/
theorem test_poll_late_response :
    seen (step (awaiting 0b0010#4 8 (List.replicate 9 0x30#8) 1115)) (fun t => (t.tstate, t.rxq)) =
      some (.complete, [0x30]) :=
  by decide
/-- The wait of R136 is not ended by a byte. -/
theorem test_poll_wait :
    seen (step { awaiting 0b1000#4 1 [0x06] 1009 with tPoll := 1000, pollHold := some 10 }) (·.tstate) =
      some .awaitingLength :=
  by decide

/-! ### Placing an instruction (how the host starts one) -/

theorem test_placed_wrU16 : fetch (State.withFetchWord base 8 0b1010) = some (encode (.wrU16 [] 0)) := by decide
theorem test_placed_resetBit :
    fetch (State.withFetchWord base 72 (wordOf [0x02, 0x38, 0x30, 0x30, 0x30, 0x38, 0x03, 0x30, 0x33])) = some (encode (.resetBit 0x0800)) :=
  by decide
theorem test_placed_rdresp1 :
    fetch (State.withFetchWord base 48 (wordOf [0x02, 0x41, 0x35, 0x03, 0x37, 0x39])) = some (encode (.rdresp1 0x41 0x35 0x37 0x39)) :=
  by decide

/-! ### Witnesses: the hypotheses of each obligation can be met -/

/-- A small proof that a concrete state meets the invariant. -/
theorem test_base_inv : base.Inv :=
  ⟨rfl, by decide, by decide, rfl, by decide, rfl, rfl, by decide, by decide, by decide,
    fun h => absurd h (by simp [State.inTransaction, base,
    State.reset]), by decide, by decide⟩

theorem test_witness_DecodeOfEncodeIsIdentity :
    (Instr.wrU32 [0x44, 0x30, 0x30, 0x30, 0x30, 0x30, 0x30, 0x30] 1).wellFormed = true :=
  by decide
theorem test_witness_EncodeOfDecodeIsIdentity :
    decode (.request [0x02, 0x37, 0x30, 0x30, 0x30, 0x38, 0x03, 0x30, 0x32]) = .ok (.setBit 0x0800) ∧
      decode (.response [0x15]) = .ok (.ack 0x15) :=
  by decide
theorem test_witness_PlacedInstructionIsFetchedAndRun :
    (Instr.rdresp1 0x30 0x31 0x36 0x34).wellFormed = true ∧ (Instr.rdBit nine.tail).wellFormed = true :=
  by decide
theorem test_witness_StepRunsTheDecodedInstruction :
    let s := inFlight 0b0101#4 [] 0
    fetch s = some (.command 0b0101#4 [] 0) ∧ decode (.command 0b0101#4 [] 0) = .ok .reserved0101 ∧
      s.schedule = [] :=
  by decide
theorem test_witness_StepRunsTheDecodedInstruction_transition :
    let s := { inFlight 0b0010#4 [] 0 with tstate := .sent, schedule := [.engine, .tick 1] }
    fetch s = none ∧ s.schedule = .engine :: [.tick 1] :=
  by decide
theorem test_witness_StepRunsTheDecodedInstruction_undecoded :
    let s := { inFlight 0b0010#4 [] 0 with
      tstate := .complete, expectN := 8, rxGot := 8, rxBuf := [0x15, 0x33, 0x34, 0x31, 0x32, 0x03, 0x43, 0x44, 0, 0, 0, 0] }
    fetch s = some (.response [0x15, 0x33, 0x34, 0x31, 0x32, 0x03, 0x43, 0x44]) ∧
      decode (.response [0x15, 0x33, 0x34, 0x31, 0x32, 0x03, 0x43, 0x44]) = .error .badStart ∧ s.schedule = [] :=
  by decide
theorem test_witness_StepRunsTheDecodedInstruction_engine_move :
    let s := { inFlight 0b0101#4 [] 0 with schedule := [.engine, .tick 1] }
    fetch s = some (.command 0b0101#4 [] 0) ∧ s.schedule = .engine :: [.tick 1] :=
  by decide
/-- The largest number of four digits, and the empty string. -/
theorem test_witness_RenderedNumberDecodesToItsBytes :
    4 % 2 = 0 ∧ 0xFFFF < 16 ^ 4 ∧ 0 % 2 = 0 ∧ 0 < 16 ^ 0 :=
  by decide
theorem test_witness_ChecksumIsTheSumModulo256 : List.Perm [0x31#8, 0x32#8] [0x32#8, 0x31#8] := by decide
theorem test_witness_ValueRoundTrip :
    [0xFF#8, 0xFF#8, 0xFF#8, 0xFF#8].length ∈ [1, 2, 4] ∧ 1 ∈ [1, 2, 4] ∧ (0xFF#32).toNat < 256 ^ 1 ∧
      4 ∈ [1, 2, 4] ∧ (0xFFFFFFFF#32).toNat < 256 ^ 4 ∧ 3 ∉ [1, 2, 4] ∧ 8 ∉ [1, 2, 4] :=
  by decide
/-- The examples of R115: "78563412", and "1234" without `DATA_LSB_FIRST`. -/
theorem test_valueToAsciiHex_lsbFirst :
    valueToAsciiHex true 0x12345678 4 = some [0x37, 0x38, 0x35, 0x36, 0x33, 0x34, 0x31, 0x32] :=
  by decide
theorem test_valueToAsciiHex_msbFirst : valueToAsciiHex false 0x1234 2 = some [0x31, 0x32, 0x33, 0x34] := by decide
/-- U16, C5: there is no width 3 or 8. -/
theorem test_valueToAsciiHex_refuses :
    valueToAsciiHex true 0x123456 3 = none ∧ valueToAsciiHex true 0 8 = none :=
  by decide
theorem test_witness_HexDecodingAcceptsExactly :
    asciiHexToBytes [0x41, 0x35] = some [0xA5] ∧ 0 < [0xA5#8].length :=
  by decide
theorem test_witness_ParseAddressAcceptsExactly :
    parseAddress [0x58, 0x31, 0x37, 0x37, 0x37, 0x37, 0x37] = .ok (.X, 0xFFFF) ∧ parseAddress [0x58, 0x32, 0x30, 0x30, 0x30, 0x30, 0x30] = .error .invalidAddress ∧
      parseAddress [0x44, 0x36, 0x35, 0x35, 0x33, 0x35] = .ok (.D, 0xFFFF) ∧ parseAddress [0x44, 0x36, 0x35, 0x35, 0x33, 0x36] = .error .invalidAddress :=
  by decide
theorem test_witness_LeadingZerosHaveNoEffect :
    [0x37#8] ≠ [] ∧ (∀ z ∈ [0x30#8, 0x30#8], z = 0x30#8) ∧ parseAddress [0x44, 0x30, 0x30, 0x37] = .ok (.D, 7) :=
  by decide
/-- V2: every clause, the D clause at both sides of its bound. -/
theorem test_witness_ByteOperationAddresses :
    let st : Straps := ⟨false, false, true⟩
    resolve st .D 30719 true = .ok 0xFFFE ∧ resolve st .D 30720 true = .error .invalidAddress ∧
      resolve st .M 65535 true = .ok 0x20FF ∧ resolve st .X 15 true = .ok 0x0081 ∧ resolve st .Y 127 true = .ok 0x00AF ∧
      resolve st .S 999 true = .ok 0x007C ∧ resolve st .T 255 true = .ok 0x00DF :=
  by decide
/-- V2, V9: the clauses of M, S, X and D where they meet. -/
theorem test_witness_BitOperationAddresses_M_S :
    let st : Straps := ⟨false, false, true⟩
    resolve st .M 7999 false = .ok 0x273F ∧ resolve st .M 8000 false = .ok 0x2E40 ∧
      resolve st .M 61695 false = .ok 0xFFFF ∧ resolve st .M 61696 false = .error .invalidAddress ∧
      resolve st .S 65535 false = .ok 0xFFFF ∧ resolve st .X 7 false = .error .unsupportedOperation ∧
      resolve st .D 40000 false = .error .unsupportedOperation :=
  by decide
/-- The clauses of Y for both straps and of T, where they meet. -/
theorem test_witness_BitOperationAddresses_Y_T :
    resolve ⟨false, false, true⟩ .Y 64255 false = .ok 0xFFFF ∧
      resolve ⟨false, false, true⟩ .Y 64256 false = .error .invalidAddress ∧
      resolve ⟨true, false, true⟩ .Y 64511 false = .ok 0xFFFF ∧
      resolve ⟨true, false, true⟩ .Y 64512 false = .error .invalidAddress ∧
      resolve ⟨false, false, true⟩ .T 5 false = .error .unsupportedOperation ∧
      resolve ⟨false, true, true⟩ .T 63999 false = .ok 0xFFFF ∧
      resolve ⟨false, true, true⟩ .T 64000 false = .error .invalidAddress :=
  by decide
theorem test_witness_MRelayBitAddressesAreInjective :
    61696 ≤ (61696#16).toNat ∧ (61695#16).toNat < 61696 ∧ resolve ⟨false, false, true⟩ .M 8000 false = .ok 0x2E40 :=
  by decide
theorem test_witness_ReservedOpcodesEndUnsupported :
    let s := { base with waiting := [⟨0b0111#4, 1, [0x44, 0x30], 0⟩] }
    0b0111#4 ∈ [0b0101#4, 0b0110#4, 0b0111#4, 0b1101#4, 0b1110#4, 0b1111#4] ∧ s.schedule = [] ∧ s.lock = false ∧
      s.tstate = .idle ∧ s.frameReady = false ∧ s.waiting = ⟨0b0111#4, 1, [0x44, 0x30], 0⟩ :: [] :=
  by decide
theorem test_witness_ReadCommandsBuildTheirFrame :
    parseAddress [0x4D, 0x31, 0x34, 0x36] = .ok (.M, 146) ∧ resolve base.config .M 146 true = .ok 0x0112 :=
  by decide
theorem test_witness_ByteWriteCommandsBuildTheirFrame :
    parseAddress [0x44, 0x31, 0x30, 0x30] = .ok (.D, 100) ∧ resolve base.config .D 100 true = .ok 0x10C8 :=
  by decide
theorem test_witness_BitWriteBuildsSetOrReset :
    parseAddress [0x59, 0x31, 0x30] = .ok (.Y, 8) ∧ resolve base.config .Y 8 false = .ok 0x0508 :=
  by decide
theorem test_witness_ByteOperationLocalFaults :
    parseAddress [0x58, 0x38] = .error .invalidAddress ∧ parseAddress [0x44, 0x33, 0x30, 0x37, 0x32, 0x30] = .ok (.D, 30720) ∧
      30720 ≤ (30720#16).toNat :=
  by decide
theorem test_witness_BitWriteLocalFaults_unsupported :
    parseAddress [0x58, 0x38] = .error .invalidAddress ∧ parseAddress [0x58, 0x37] = .ok (.X, 7) ∧
      parseAddress [0x44, 0x34, 0x30, 0x30, 0x30, 0x30] = .ok (.D, 40000) ∧ parseAddress [0x54, 0x35] = .ok (.T, 5) ∧ base.config.tBitEn = false :=
  by decide
theorem test_witness_BitWriteLocalFaults_range :
    parseAddress [0x4D, 0x36, 0x31, 0x36, 0x39, 0x36] = .ok (.M, 61696) ∧ parseAddress [0x59, 0x31, 0x37, 0x35, 0x34, 0x30, 0x30] = .ok (.Y, 64256) ∧
      65536 ≤ (64256#16).toNat + (if base.config.yBase0400 then 0x0400 else 0x0500) ∧
      parseAddress [0x54, 0x36, 0x34, 0x30, 0x30, 0x30] = .ok (.T, 64000) ∧ ({ base with config := ⟨false, true, true⟩ } : State).config.tBitEn = true :=
  by decide
theorem test_witness_OnlyBitWritesAndReservedAreUnsupported :
    seen (exec (.wrBit [0x58, 0x37] 1) (inFlight 0b1000#4 [] 0)) (·.records) =
      some ((inFlight 0b1000#4 [] 0).records ++ [⟨3, .unsupportedOperation, false, 0xDEADBEEF⟩]) :=
  by decide
theorem test_witness_FrameLengths :
    decodeRequest [0x02, 0x37, 0x30, 0x30, 0x30, 0x38, 0x03, 0x30, 0x32] = .ok (.setBit 0x0800) ∧
      decodeResponse [0x06] = .ok (.ack 0x06) :=
  by decide
/-- The checksums of V6. -/
theorem test_witness_WellFormedReadResponsesDeliver :
    [0x37#8, 0x39#8] = sumDigits (byteDigits 0xA5 ++ [0x03]) ∧
      [0x43#8, 0x44#8] = sumDigits (byteDigits 0x34 ++ byteDigits 0x12 ++ [0x03]) ∧
      [0x41#8, 0x37#8] = sumDigits (byteDigits 0x78 ++ byteDigits 0x56 ++ byteDigits 0x34 ++ byteDigits 0x12 ++ [0x03]) :=
  by decide
theorem test_witness_MalformedReadResponsesFault_checksum :
    [0x37#8, 0x38#8] ≠ sumDigits [0x41, 0x35, 0x03] ∧ [0x63#8, 0x64#8] ≠ sumDigits [0x33, 0x34, 0x31, 0x32, 0x03] ∧
      [0x39#8, 0x39#8] ≠ sumDigits [0x30, 0x30, 0x30, 0x30, 0x32, 0x30, 0x43, 0x30, 0x03] :=
  by decide
theorem test_witness_MalformedReadResponsesFault_digit :
    (∃ c ∈ [0x47#8, 0x35#8], hexVal c = none) ∧ (∃ c ∈ [0x61#8, 0x34#8, 0x31#8, 0x32#8], hexVal c = none) ∧
      (∃ c ∈ [0x30#8, 0x30#8, 0x30#8, 0x30#8, 0x32#8, 0x30#8, 0x43#8, 0x60#8], hexVal c = none) :=
  by decide

/-- A READ of two bytes whose response is read. -/
def answered : State :=
  { inFlight 0b0010#4 [] 0 with
    tstate := .complete, expectN := 8, rxGot := 8
    rxBuf := [0x02, 0x33, 0x34, 0x31, 0x32, 0x03, 0x43, 0x44, 0, 0, 0, 0] }

theorem test_witness_ResponseStepIsInterpretRead :
    2 ∈ [1, 2, 4] ∧ answered.schedule = [] ∧ answered.lock = true ∧ answered.tstate = .complete ∧
      answered.expectN.toNat = 2 * 2 + 4 ∧ answered.rxGot = 2 * 2 + 4 ∧ answered.rxBuf.length = 12 :=
  by decide

/-- A command that waits. -/
def readD0 : Command := ⟨0b0010#4, 1, [0x44, 0x30], 0⟩

theorem test_witness_AcceptanceLoadsTheLatch :
    let s := { base with waiting := [readD0] }
    s.schedule = [] ∧ s.lock = false ∧ s.waiting = readD0 :: [] ∧ readD0.wellFormed = true :=
  by decide
theorem test_witness_LatchIsStableWhileLocked :
    let s := { inFlight 0b0010#4 [0x44, 0x30] 0 with waiting := [readD0] }
    (next? (step s)).isSome = true ∧ s.lock = true ∧ s.schedule.head? ≠ some .reset ∧ readD0 ∈ s.waiting :=
  by decide
theorem test_witness_SentRecordsTheDeadline :
    let s := { inFlight 0b0010#4 [] 0 with tstate := .sent }
    s.schedule = [] ∧ s.lock = true ∧ s.tstate = .sent :=
  by decide
theorem test_witness_PollTakesItsTransitionsInOrder_hold :
    let s := { awaiting 0b1000#4 1 [0x06] 1009 with tPoll := 1000, pollHold := some 10#32 }
    s.schedule = [] ∧ s.lock = true ∧ s.tstate = .awaitingLength ∧ s.pollHold = some 10#32 ∧
      s.clock < s.tPoll + (10#32).toNat :=
  by decide
/-- The three transitions of a poll, at the boundary of each condition; here the wait has just ended. -/
theorem test_witness_PollTakesItsTransitionsInOrder_read :
    let s := { awaiting 0b1000#4 1 [0x06] 1010 with tPoll := 1000, pollHold := some 10#32 }
    (∀ d, s.pollHold = some d → s.tPoll + d.toNat ≤ s.clock) ∧ s.expectN.toNat ≤ s.rxq.length ∧ s.chReadLimit = none :=
  ⟨fun _ h => (by cases h; decide), by decide, by decide⟩
theorem test_witness_PollTakesItsTransitionsInOrder_timeout :
    let s := awaiting 0b1000#4 1 [] 1101
    (∀ d, s.pollHold = some d → s.tPoll + d.toNat ≤ s.clock) ∧ s.rxq.length < s.expectN.toNat ∧ s.deadline < s.clock :=
  ⟨fun _ h => (by cases h), by decide, by decide⟩
theorem test_witness_PollTakesItsTransitionsInOrder_wait :
    let s := awaiting 0b1000#4 1 [] 1100
    (∀ d, s.pollHold = some d → s.tPoll + d.toNat ≤ s.clock) ∧ s.rxq.length < s.expectN.toNat ∧ s.clock ≤ s.deadline :=
  ⟨fun _ h => (by cases h), by decide, by decide⟩
theorem test_witness_TimeoutLeavesTheChannelUnread :
    let s := { awaiting 0b0010#4 8 [0x02] 1101 with tPoll := 1091, pollHold := some 10#32 }
    s.schedule = [] ∧ s.lock = true ∧ s.tstate = .awaitingLength ∧
      (∀ d, s.pollHold = some d → s.tPoll + d.toNat ≤ s.clock) ∧ s.rxq.length < s.expectN.toNat ∧ s.deadline < s.clock :=
  ⟨rfl, rfl, rfl, fun _ h => (by cases h; decide), by decide, by decide⟩
theorem test_witness_ShortReadEndsInvalidFrame :
    let s := { awaiting 0b1000#4 1 [0x06] 1000 with chReadLimit := some 0 }
    s.schedule = [] ∧ s.lock = true ∧ s.tstate = .awaitingLength ∧
      (∀ d, s.pollHold = some d → s.tPoll + d.toNat ≤ s.clock) ∧ s.expectN.toNat ≤ s.rxq.length ∧
      s.chReadLimit = some 0 ∧ 0 < s.expectN.toNat :=
  ⟨rfl, rfl, rfl, fun _ h => (by cases h), by decide, rfl, by decide⟩
theorem test_witness_StalledClockNeverReleases :
    let s := awaiting 0b0010#4 8 [0x02] 1100
    s.schedule = [] ∧ s.lock = true ∧ s.tstate = .awaitingLength ∧ s.rxq.length < s.expectN.toNat ∧ s.clock ≤ s.deadline :=
  by decide

/-- The same command of another requester. -/
def readD0of2 : Command := { readD0 with req := 2 }

theorem test_witness_GrantOrderIsOpen :
    let s := { inFlight 0b0010#4 [] 0 with waiting := [readD0] }
    readD0of2.wellFormed = true ∧ (s.lock = true → readD0of2.req ≠ s.cmdReq) ∧ (∀ w ∈ s.waiting, readD0of2.req ≠ w.req) ∧
      s.waiting = [] ++ [readD0] ∧ 8 < nine.length :=
  by decide
/-- The requester of a waiting command, and that of the command in flight. -/
theorem test_witness_GrantOrderIsOpen_blocked :
    let s := { inFlight 0b0010#4 [] 0 with waiting := [readD0] }
    readD0.wellFormed = true ∧ (∃ w ∈ s.waiting, readD0.req = w.req) ∧ s.lock = true ∧ ({ readD0 with req := 3 } : Command).req = s.cmdReq :=
  by decide
/-- With `test_base_inv` the hypotheses of EveryStepKeepsTheInvariant, ConfigNeverChanges and ClockIsMonotonic. -/
theorem test_witness_steps_of_the_invariant :
    (next? (step { base with waiting := [readD0] })).isSome = true :=
  by decide

/-- One command waits and another requester is about to submit. -/
def twoRequesters : State := { base with waiting := [readD0], schedule := [.submit 0 readD0of2] }

theorem test_twoRequesters_inv : twoRequesters.Inv :=
  ⟨rfl, by decide, by decide, rfl, by decide, rfl, rfl, by decide, by decide, by decide,
    fun h => absurd h (by simp [State.inTransaction, twoRequesters, base, State.reset]), by decide, by decide⟩

theorem test_witness_NoStepStops :
    twoRequesters.Inv ∧ twoRequesters.submitsFit ∧ twoRequesters.submitterWaits :=
  ⟨test_twoRequesters_inv, fun _ _ h => (by simp [twoRequesters] at h; rw [h.2]; decide),
    fun _ _ _ h => (by simp [twoRequesters] at h; obtain ⟨⟨-, rfl⟩, -⟩ := h; decide)⟩
/-- R216 (g): a requester waits for its completion record before submitting again. -/
theorem test_submit_second_of_same_requester :
    step { base with waiting := [readD0], schedule := [.submit 0 readD0] } = .refused .requesterBlocked :=
  rfl

/-- A READ whose response has a wrong start byte. -/
def malformed : State := { answered with rxBuf := [0x15, 0x33, 0x34, 0x31, 0x32, 0x03, 0x43, 0x44, 0, 0, 0, 0] }

theorem test_witness_OnlyReadsAreMalformed : malformed.Inv ∧ malformed.readsWhole ∧
    seen (step malformed) (·.records) = some (malformed.records ++ [⟨3, .invalidFrame, false, 0xDEADBEEF⟩]) :=
  ⟨⟨rfl, by decide, by decide, rfl, by decide, rfl, rfl, by decide, by decide, by decide, fun _ => rfl,
    by decide, by decide⟩,
    ⟨⟨rfl, fun _ => List.not_mem_nil⟩, fun _ => rfl⟩, by decide⟩

/-- One time unit past the deadline, at the very end of the wait. -/
theorem test_witness_ClockPastDeadlineReleases :
    let s := { awaiting 0b0010#4 8 [] 1095 with tPoll := 1091, pollHold := some 10#32, schedule := [Move.tick 6, .engine, .engine] ++ [] }
    s.lock = true ∧ s.tstate = .awaitingLength ∧ s.schedule = [Move.tick 6, .engine, .engine] ++ [] ∧
      s.deadline < s.clock + 6 ∧ (∀ h, s.pollHold = some h → s.tPoll + h.toNat ≤ s.clock + 6) :=
  ⟨rfl, rfl, rfl, by decide, fun _ h => (by cases h; decide)⟩
theorem test_witness_ClockIsMonotonic :
    seen (step { base with schedule := [.tick 5] }) (·.clock) = some 5 ∧
      seen (step { base with clock := 9, schedule := [.reset] }) (·.clock) = some 9 :=
  by decide
theorem test_witness_ResultsChangeOnlyAtCompletion_acceptance :
    seen (step { base with waiting := [readD0] }) (fun t => (t.lock, t.status, t.waiting)) =
      some (true, ⟨true, false, false, .ok⟩, []) ∧ ({ base with waiting := [readD0] } : State).schedule.head? ≠ some .reset :=
  by decide
theorem test_witness_ResultsChangeOnlyAtCompletion :
    seen (step (inFlight 0b0101#4 [] 0)) (fun t => (t.lock, t.records.length)) = some (false, 1) ∧
      (inFlight 0b0101#4 [] 0).schedule.head? ≠ some .reset :=
  by decide
theorem test_witness_OnlyReadCompletionsWriteRdata :
    seen (step answered) (·.rdata) = some 0x1234 ∧ answered.rdata ≠ 0x1234 ∧ answered.schedule.head? ≠ some .reset :=
  by decide
theorem test_witness_ReceiveQueueIsNeverFlushed :
    seen (step { base with schedule := [.arrive [0x15]] }) (·.rxq) = some [0x15] ∧
      seen (step (awaiting 0b1000#4 1 [0x06, 0x15] 1000)) (·.rxq) = some [0x15] :=
  by decide

/-- A SET whose frame is built. -/
def setBuilt : State :=
  { inFlight 0b1000#4 [0x4D, 0x30] 1 with
    frameReady := true, expectN := 1, txLen := 9
    txBuf := [0x02, 0x37, 0x30, 0x30, 0x30, 0x38, 0x03, 0x30, 0x32] ++ List.replicate 10 0#8 }

theorem test_witness_TransmitLogGrowsByWholeFrames :
    seen (step setBuilt) (fun t => (t.txlog, t.tstate)) =
      some ([0x02, 0x37, 0x30, 0x30, 0x30, 0x38, 0x03, 0x30, 0x32], .sent) :=
  by decide

/-- A timed-out transaction with a second command waiting. -/
def timedOut : State := { inFlight 0b0010#4 [] 0 with tstate := .timedOut, expectN := 8, waiting := [readD0] }

theorem test_timedOut_inv : timedOut.Inv :=
  ⟨rfl, by decide, by decide, rfl, by decide, rfl, rfl, by decide, by decide, by decide, fun _ => rfl,
    by decide, by decide⟩

/-- With `test_timedOut_inv`: completion, acceptance, frame built, frame sent. -/
theorem test_witness_NoSecondFrameBeforeRelease :
    timedOut.tstate ≠ .idle ∧
      seen (Host.Core.run Sys2Proof.core 4 timedOut) (·.txlog.length) = some 11 ∧ timedOut.txlog = [] :=
  by decide

/-- The machine of `base` with other contents of registers that R31 leaves unspecified. -/
def otherwise : State := { base with cmdOp := 9, area := .T, uaddr := 0x1234, deadline := 77, rxGot := 5 }

theorem test_otherwise_inv : otherwise.Inv :=
  ⟨rfl, by decide, by decide, rfl, by decide, rfl, rfl, by decide, by decide, by decide,
    fun h => absurd h (by simp [State.inTransaction,
    otherwise, base, State.reset]), by decide, by decide⟩

/-- With `test_base_inv` and `test_otherwise_inv`. -/
theorem test_witness_UnspecifiedRegistersNeverMatter :
    base.lock = false ∧ otherwise.lock = false ∧ base.specified = otherwise.specified ∧ base ≠ otherwise :=
  by decide

/-- RD_BIT `M146` in flight, its answer the byte 0x04, two surplus bytes behind it, then a further move. -/
def readRun : State :=
  { inFlight 0b0000#4 [0x4D, 0x31, 0x34, 0x36] 0 with
    schedule := [.engine, .engine, .engine,
      .arrive ([0x02#8] ++ [0x04#8].flatMap byteDigits ++ [0x03#8] ++ sumDigits ([0x04#8].flatMap byteDigits ++ [0x03#8]) ++
        [0x15#8, 0x06#8]), .engine, .engine] ++ [.tick 1] }

/-- A write in flight with a stale byte in `RXQ`. -/
def writeRun (op : Opcode) (addr : List Byte) : State :=
  { inFlight op addr 0x12345678 with
    rxq := [0x15], schedule := [.engine, .engine, .engine, .arrive [0x06], .engine, .engine] ++ [] }

theorem test_witness_ReadCommandRunsToItsValue :
    (0, 1) ∈ [(0, 1), (1, 1), (2, 2), (3, 4), (4, 4)] ∧ readRun.cmdOp.toNat = 0 ∧ [0x04#8].length = 1 ∧
      readRun.lock = true ∧ readRun.tstate = .idle ∧ readRun.frameReady = false ∧ readRun.chReadLimit = none ∧
      readRun.rxq = [] ∧ parseAddress readRun.latchedAddr = .ok (.M, 146) ∧
      resolve readRun.config .M 146 true = .ok 0x0112 :=
  by decide
theorem test_witness_WriteCommandRunsToItsAcknowledgement :
    let s := writeRun 0b1011#4 [0x44, 0x31, 0x30]
    (11, Config.ValueWidth.four) ∈ [(9, .one), (10, .two), (11, .four), (12, .four)] ∧ s.cmdOp.toNat = 11 ∧ s.lock = true ∧ s.tstate = .idle ∧
      s.frameReady = false ∧ s.chReadLimit = none ∧ s.rxq ++ [0x06] = 0x15 :: [0x06] ∧
      parseAddress s.latchedAddr = .ok (.D, 10) ∧ resolve s.config .D 10 true = .ok 0x1014 :=
  by decide
theorem test_witness_BitWriteRunsToItsAcknowledgement :
    let s := writeRun 0b1000#4 [0x4D, 0x30]
    s.cmdOp = 0b1000#4 ∧ s.lock = true ∧ s.tstate = .idle ∧ s.frameReady = false ∧ s.chReadLimit = none ∧
      s.rxq ++ [0x06] = 0x15 :: [0x06] ∧ parseAddress s.latchedAddr = .ok (.M, 0) ∧
      resolve s.config .M 0 false = .ok 0x0800 :=
  by decide

end Sys2Proof.Tests
end

/-! ## The schedule is never read by the engine

SUPPORT for O56. The schedule is the model's device (notes/assumptions/2.md), so no operation of the engine may look at
it or change it. `ScheduleBlind` says this of a meaning: with another schedule before the step the answer is the same but
for that schedule. It is proved from the shared operations upwards to `engineStep`. -/

namespace Sys2Proof.Machine

/-- `s` with another schedule and everything else as it is. -/
def State.withSchedule (s : State) (moves : List Move) : State := { s with schedule := moves }

@[simp] theorem State.withSchedule_schedule (s : State) (moves : List Move) :
    (s.withSchedule moves).schedule = moves := rfl

@[simp] theorem State.withSchedule_config (s : State) (moves : List Move) :
    (s.withSchedule moves).config = s.config := rfl

@[simp] theorem State.withSchedule_pollHold (s : State) (moves : List Move) :
    (s.withSchedule moves).pollHold = s.pollHold := rfl

@[simp] theorem State.withSchedule_waiting (s : State) (moves : List Move) :
    (s.withSchedule moves).waiting = s.waiting := rfl

@[simp] theorem State.withSchedule_lock (s : State) (moves : List Move) :
    (s.withSchedule moves).lock = s.lock := rfl

@[simp] theorem State.withSchedule_tstate (s : State) (moves : List Move) :
    (s.withSchedule moves).tstate = s.tstate := rfl

/-- The same answer with another schedule in its next state, if it has one. -/
def rescheduled (moves : List Move) : Result → Result
  | .next t => .next (t.withSchedule moves)
  | .fault f => .fault f
  | .refused r => .refused r

/-- The meaning neither reads nor writes the schedule. -/
def ScheduleBlind (f : State → Result) : Prop :=
  ∀ (s : State) (moves : List Move), f (s.withSchedule moves) = rescheduled moves (f s)

/-- Putting back the schedule that is there changes nothing, so a schedule-blind meaning leaves the schedule alone. -/
theorem ScheduleBlind.schedule_kept {f : State → Result} (hf : ScheduleBlind f) {s t : State}
    (h : f s = .next t) : t.schedule = s.schedule := by
  have same : f s = rescheduled s.schedule (f s) := hf s s.schedule
  rw [h] at same
  injection same with ht
  rw [ht, State.withSchedule_schedule]

/-! ### The instructions -/

/-- The local phase that the commands share (R160, R170, R188): the address is parsed and resolved, then `build` writes
the request frame for area, offset and unit address. -/
def localPhase (byteOperation : Bool) (build : Area → UnitAddr → UnitAddr → State → State) (addr : List Byte)
    (s : State) : Result :=
  match parseAddress addr with
  | .error e => .next (s.raise e)
  | .ok (area, offset) =>
    match resolve s.config area offset byteOperation with
    | .error e => .next ((s.setParsed area offset).raise e)
    | .ok u => .next (build area offset u s)

theorem readCommand_eq_localPhase (n : Config.ValueWidth) (addr : List Byte) :
    readCommand n addr = localPhase true (fun area offset u s =>
      (((s.setParsed area offset).setUaddr u).setLen n.bytes).setFrame (buildRead u n.bytes) (2 * n.bytes + 4))
      addr := rfl

theorem writeCommand_eq_localPhase (n : Config.ValueWidth) (addr : List Byte) (wdata : Word) :
    writeCommand n addr wdata = localPhase true (fun area offset u s =>
      (((s.setParsed area offset).setUaddr u).setLen n.bytes).setFrame
        (buildWrite u n.bytes (wireBytes s.config.dataLsbFirst wdata n)) 1) addr := rfl

theorem execWrBit_eq_localPhase (addr : List Byte) (wdata : Word) :
    execWrBit addr wdata = localPhase false (fun area offset u s =>
      ((s.setParsed area offset).setUaddr u).setFrame (buildBit u (wdata.getLsbD 0)) 1) addr := rfl

theorem localPhase_scheduleBlind {build : Area → UnitAddr → UnitAddr → State → State}
    (hbuild : ∀ area offset u s moves,
      build area offset u (s.withSchedule moves) = (build area offset u s).withSchedule moves)
    (byteOperation : Bool) (addr : List Byte) : ScheduleBlind (localPhase byteOperation build addr) := by
  intro s moves
  unfold localPhase
  cases parseAddress addr with
  | error e => rfl
  | ok parsed =>
    obtain ⟨area, offset⟩ := parsed
    simp only [State.withSchedule_config]
    cases resolve s.config area offset byteOperation with
    | error e => rfl
    | ok u => exact congrArg Host.Outcome.next (hbuild area offset u s moves)

theorem readCommand_scheduleBlind (n : Config.ValueWidth) (addr : List Byte) :
    ScheduleBlind (readCommand n addr) := by
  rw [readCommand_eq_localPhase]
  exact localPhase_scheduleBlind (fun _ _ _ _ _ => rfl) true addr

theorem writeCommand_scheduleBlind (n : Config.ValueWidth) (addr : List Byte) (wdata : Word) :
    ScheduleBlind (writeCommand n addr wdata) := by
  rw [writeCommand_eq_localPhase]
  exact localPhase_scheduleBlind (fun _ _ _ _ _ => rfl) true addr

theorem execWrBit_scheduleBlind (addr : List Byte) (wdata : Word) : ScheduleBlind (execWrBit addr wdata) := by
  rw [execWrBit_eq_localPhase]
  exact localPhase_scheduleBlind (fun _ _ _ _ _ => rfl) false addr

theorem readResponse_scheduleBlind (n : Nat) (rx : List Byte) (deliver : Word → Word) :
    ScheduleBlind (readResponse n rx deliver) := by
  intro s moves
  simp only [readResponse, State.withSchedule_config]
  cases interpretRead s.config.dataLsbFirst n rx <;> rfl

/-- No instruction looks at the schedule. The commands and the read responses go through the shared operations above;
the others answer one record update. -/
theorem exec_scheduleBlind (i : Instr) : ScheduleBlind (exec i) := by
  cases i with
  | rdBit a => exact readCommand_scheduleBlind .one a
  | rdByte a => exact readCommand_scheduleBlind .one a
  | rdU16 a => exact readCommand_scheduleBlind .two a
  | rdU32 a => exact readCommand_scheduleBlind .four a
  | rdF32 a => exact readCommand_scheduleBlind .four a
  | wrBit a w => exact execWrBit_scheduleBlind a w
  | wrByte a w => exact writeCommand_scheduleBlind .one a w
  | wrU16 a w => exact writeCommand_scheduleBlind .two a w
  | wrU32 a w => exact writeCommand_scheduleBlind .four a w
  | wrF32 a w => exact writeCommand_scheduleBlind .four a w
  | rdresp1 c0 c1 s0 s1 =>
    exact fun s => readResponse_scheduleBlind 1 [stx, c0, c1, etx, s0, s1] (deliverByte s.cmdOp s.bitsel) s
  | rdresp2 c0 c1 c2 c3 s0 s1 =>
    exact readResponse_scheduleBlind 2 [stx, c0, c1, c2, c3, etx, s0, s1] id
  | rdresp4 c0 c1 c2 c3 c4 c5 c6 c7 s0 s1 =>
    exact readResponse_scheduleBlind 4 [stx, c0, c1, c2, c3, c4, c5, c6, c7, etx, s0, s1] id
  | reserved0101 | reserved0110 | reserved0111 | reserved1101 | reserved1110 | reserved1111 => exact fun _ _ => rfl
  | read1 | read2 | read4 | write1 | write2 | write4 | setBit | resetBit | ack => exact fun _ _ => rfl

theorem undecoded_scheduleBlind (code : Code) : ScheduleBlind (undecoded code) := by
  cases code <;> exact fun _ _ => rfl

/-! ### The transitions of `TSTATE` -/

@[simp] theorem fetch_withSchedule (s : State) (moves : List Move) : fetch (s.withSchedule moves) = fetch s := rfl

theorem poll_withSchedule (s : State) (moves : List Move) :
    (s.withSchedule moves).poll = s.poll.withSchedule moves := by
  show (if s.expectN.toNat ≤ s.chAvail then s.takeResponse.withSchedule moves
    else if s.deadline < s.clock then s.giveUp.withSchedule moves else s.startWait.withSchedule moves) = _
  simp only [State.poll, apply_ite (State.withSchedule · moves)]

theorem await_withSchedule (s : State) (moves : List Move) :
    (s.withSchedule moves).await = s.await.withSchedule moves := by
  unfold State.await
  rw [State.withSchedule_pollHold]
  cases s.pollHold with
  | none => exact poll_withSchedule s moves
  | some d =>
    rw [poll_withSchedule]
    exact (apply_ite (State.withSchedule · moves) (s.clock < s.tPoll + d.toNat) s s.poll).symm

theorem idleStep_withSchedule (s : State) (moves : List Move) :
    idleStep (s.withSchedule moves) = (idleStep s).withSchedule moves := by
  simp only [idleStep, State.withSchedule_waiting]
  cases s.waiting <;> rfl

theorem transition_withSchedule (s : State) (moves : List Move) :
    transition (s.withSchedule moves) = (transition s).withSchedule moves := by
  unfold transition
  rw [State.withSchedule_lock, State.withSchedule_tstate]
  cases s.lock with
  | false => exact idleStep_withSchedule s moves
  | true =>
    cases s.tstate with
    | awaitingLength => exact await_withSchedule s moves
    | idle | sent | complete | timedOut => rfl

/-! ### The step -/

theorem engineStep_scheduleBlind : ScheduleBlind engineStep := by
  intro s moves
  unfold engineStep
  rw [fetch_withSchedule]
  cases fetch s with
  | none => exact congrArg Host.Outcome.next (transition_withSchedule s moves)
  | some code =>
    dsimp only
    cases decode code with
    | ok i => exact exec_scheduleBlind i s moves
    | error e => exact undecoded_scheduleBlind code s moves

/-- Before any moves the engine answers what it answers before none, with those moves left. -/
theorem step_engine_cons (s : State) (rest : List Move) :
    step { s with schedule := .engine :: rest } = rescheduled rest (step { s with schedule := [] }) :=
  calc step { s with schedule := .engine :: rest }
    _ = engineStep ((s.withSchedule []).withSchedule rest) := rfl
    _ = rescheduled rest (engineStep (s.withSchedule [])) := engineStep_scheduleBlind (s.withSchedule []) rest
    _ = rescheduled rest (step { s with schedule := [] }) := rfl

/-- With an empty schedule the step leaves it empty. -/
theorem step_nil_schedule {s t : State} (h : step { s with schedule := [] } = .next t) : t.schedule = [] :=
  engineStep_scheduleBlind.schedule_kept (s := s.withSchedule []) h

/-- Settles O56: the engine is blind to the schedule, so its step before `rest` is its step before nothing with `rest`
left, and of the empty schedule it leaves the empty schedule. -/
theorem engineStepIgnoresTheSchedule : Obligations.EngineStepIgnoresTheSchedule := by
  intro s rest
  have same := step_engine_cons s rest
  cases h : step { s with schedule := [] } with
  | next t =>
    rw [h] at same
    exact ⟨step_nil_schedule h, same⟩
  | fault f =>
    rw [h] at same
    exact same
  | refused r =>
    rw [h] at same
    exact same

end Sys2Proof.Machine

/-! ## Encoding and decoding

SUPPORT for O3, O39 and O52. What the encoder writes decodes to what was encoded (R62, R63, R68 to R72), so every frame
the engine builds is a request frame; and what a decoded command, request or response does to a state. -/

namespace Sys2Proof.Machine

theorem decodeBody_read (u : UnitAddr) (rest : List Byte) :
    decodeBody ([fcRead] ++ addrField u ++ rest) = decodeReadTail u rest := by
  obtain ⟨a0, a1, a2, a3, ha⟩ := List.length_eq_four.mp (addrField_length u)
  have hu : decodeAddrField false [a0, a1, a2, a3] = some u := ha ▸ decodeAddrField_addrField u
  simp [ha, decodeBody, hu]

theorem decodeBody_write (u : UnitAddr) (rest : List Byte) :
    decodeBody ([fcWrite] ++ addrField u ++ rest) = decodeWriteTail u rest := by
  obtain ⟨a0, a1, a2, a3, ha⟩ := List.length_eq_four.mp (addrField_length u)
  have hu : decodeAddrField false [a0, a1, a2, a3] = some u := ha ▸ decodeAddrField_addrField u
  simp [ha, decodeBody, hu, fcWrite, fcRead]

theorem decodeBody_bit (u : UnitAddr) (set : Bool) :
    decodeBody ([if set then fcSet else fcReset] ++ bitAddrField u) = .ok (if set then .setBit u else .resetBit u) := by
  obtain ⟨a0, a1, a2, a3, ha⟩ := List.length_eq_four.mp (bitAddrField_length u)
  have hu : decodeAddrField true [a0, a1, a2, a3] = some u := ha ▸ decodeAddrField_bitAddrField u
  cases set <;> simp [ha, decodeBody, hu, fcSet, fcReset, fcWrite, fcRead]

theorem decodeRequest_buildRead (u : UnitAddr) (n : Nat) :
    decodeRequest (buildRead u n) = decodeReadTail u (lenField n) := by
  simp only [decodeRequest, buildRead, unframe_frameOf, decodeBody_read]

theorem decodeRequest_buildWrite (u : UnitAddr) (n : Nat) (bytes : List Byte) :
    decodeRequest (buildWrite u n bytes) = decodeWriteTail u (lenField n ++ hexOfBytes bytes) := by
  rw [decodeRequest, buildWrite, unframe_frameOf, List.append_assoc]
  exact decodeBody_write u _

theorem decodeRequest_buildBit (u : UnitAddr) (set : Bool) :
    decodeRequest (buildBit u set) = .ok (if set then .setBit u else .resetBit u) := by
  rw [decodeRequest, buildBit, unframe_frameOf]
  exact decodeBody_bit u set

/-- The characters after LEN are DATA, and LEN stands before them (R69). -/
theorem take_drop_lenField (n : Nat) (rest : List Byte) :
    (lenField n ++ rest).take 2 = lenField n ∧ (lenField n ++ rest).drop 2 = rest :=
  ⟨rfl, rfl⟩

/-- Decoding what the encoder writes gives the instruction back. -/
theorem decode_encode (i : Instr) : decode (encode i) = .ok i := by
  have len : lenField 2 ≠ lenField 1 ∧ lenField 4 ≠ lenField 1 ∧ lenField 4 ≠ lenField 2 := by decide
  obtain ⟨h21, h41, h42⟩ := len
  cases i with
  | rdBit | rdByte | rdU16 | rdU32 | rdF32 | wrBit | wrByte | wrU16 | wrU32 | wrF32 => rfl
  | reserved0101 | reserved0110 | reserved0111 | reserved1101 | reserved1110 | reserved1111 => rfl
  | read1 u => simp [decode, encode, decodeRequest_buildRead, decodeReadTail]
  | read2 u => simp [decode, encode, decodeRequest_buildRead, decodeReadTail, h21]
  | read4 u => simp [decode, encode, decodeRequest_buildRead, decodeReadTail, h41, h42]
  | write1 | write2 | write4 =>
    simp only [decode, encode, decodeRequest_buildWrite, decodeWriteTail, take_drop_lenField, asciiHexToBytes_hexOfBytes,
      if_true]
  | setBit u => exact decodeRequest_buildBit u true
  | resetBit u => exact decodeRequest_buildBit u false
  | ack k => rfl
  | rdresp1 | rdresp2 | rdresp4 => simp [decode, encode, decodeResponse]

/-! ### The frames the engine builds are requests that fit `TXBUF` -/

theorem isRequest_iff {bytes : List Byte} : isRequest bytes = true ↔ ∃ i, decodeRequest bytes = .ok i := by
  unfold isRequest
  cases decodeRequest bytes <;> simp

theorem isRequest_of_encode {i : Instr} {bytes : List Byte} (h : encode i = .request bytes) :
    isRequest bytes = true := by
  have back := decode_encode i
  rw [h] at back
  exact isRequest_iff.mpr ⟨i, back⟩

theorem isRequest_buildRead (u : UnitAddr) (width : Config.ValueWidth) :
    isRequest (buildRead u width.bytes) = true := by
  cases width with
  | one => exact isRequest_of_encode (i := .read1 u) rfl
  | two => exact isRequest_of_encode (i := .read2 u) rfl
  | four => exact isRequest_of_encode (i := .read4 u) rfl

theorem isRequest_buildWrite (u : UnitAddr) (width : Config.ValueWidth) {bytes : List Byte}
    (h : bytes.length = width.bytes) : isRequest (buildWrite u width.bytes bytes) = true := by
  cases width with
  | one =>
    obtain ⟨d0, rfl⟩ := List.length_eq_one_iff.mp h
    exact isRequest_of_encode (i := .write1 u d0) rfl
  | two =>
    obtain ⟨d0, d1, rfl⟩ := List.length_eq_two.mp h
    exact isRequest_of_encode (i := .write2 u d0 d1) rfl
  | four =>
    obtain ⟨d0, d1, d2, d3, rfl⟩ := List.length_eq_four.mp h
    exact isRequest_of_encode (i := .write4 u d0 d1 d2 d3) rfl

theorem isRequest_buildBit (u : UnitAddr) (set : Bool) : isRequest (buildBit u set) = true :=
  isRequest_iff.mpr ⟨_, decodeRequest_buildBit u set⟩

theorem buildRead_length (u : UnitAddr) (n : Nat) : (buildRead u n).length = 11 := by simp [buildRead]

theorem buildWrite_length (u : UnitAddr) (n : Nat) (bytes : List Byte) :
    (buildWrite u n bytes).length = 11 + 2 * bytes.length := by
  simp [buildWrite]; omega

theorem buildBit_length (u : UnitAddr) (set : Bool) : (buildBit u set).length = 9 := by simp [buildBit]

/-! ### What a decoded instruction does -/

/-- What a command that passes its local checks makes of the state: the address is parsed and resolved, `LEN` is set and
the request frame is built (R160, R170). -/
def State.build (s : State) (area : Area) (offset u : UnitAddr) (n : Nat) (frame : List Byte) (expect : Nat) : State :=
  (((s.setParsed area offset).setUaddr u).setLen n).setFrame frame expect

/-- Setting `LEN` to what it holds changes nothing: WR_BIT does not use it (R17). -/
theorem State.setLen_same (s : State) : s.setLen s.len.toNat = s := by
  simp [State.setLen]

/-- `frame` gives request frames that fit `TXBUF`, whatever the straps and the unit address. -/
def BuildsRequests (frame : Straps → UnitAddr → List Byte) : Prop :=
  ∀ straps u, isRequest (frame straps u) = true ∧ (frame straps u).length ≤ 19

theorem buildsRequests_read (width : Config.ValueWidth) : BuildsRequests fun _ u => buildRead u width.bytes :=
  fun _ u => ⟨isRequest_buildRead u width, by simp [buildRead_length]⟩

theorem buildsRequests_write (width : Config.ValueWidth) (wdata : Word) :
    BuildsRequests fun straps u => buildWrite u width.bytes (wireBytes straps.dataLsbFirst wdata width) := by
  intro straps u
  have four := bytes_le_four width
  refine ⟨isRequest_buildWrite u width (wireBytes_length _ _ _), ?_⟩
  rw [buildWrite_length, wireBytes_length]
  omega

theorem buildsRequests_bit (set : Bool) : BuildsRequests fun _ u => buildBit u set :=
  fun _ u => ⟨isRequest_buildBit u set, by simp [buildBit_length]⟩

/-- The local phase of a command that builds `frame` and waits for `expect` bytes. -/
def commandPhase (byteOperation : Bool) (n : State → Nat) (frame : Straps → UnitAddr → List Byte) (expect : Nat)
    (addr : List Byte) (s : State) : Result :=
  localPhase byteOperation (fun area offset u s => s.build area offset u (n s) (frame s.config u) expect) addr s

/-- The local phase of WR_BIT leaves `LEN` as it is. -/
theorem execWrBit_eq_commandPhase (addr : List Byte) (wdata : Word) :
    execWrBit addr wdata =
      commandPhase false (fun s => s.len.toNat) (fun _ u => buildBit u (wdata.getLsbD 0)) 1 addr := by
  rw [execWrBit_eq_localPhase]
  unfold commandPhase
  congr 1
  funext area offset u s
  rw [State.build]
  exact congrArg (State.setFrame · (buildBit u (wdata.getLsbD 0)) 1)
    (State.setLen_same ((s.setParsed area offset).setUaddr u)).symm

/-- The meaning is a local phase that builds a request frame and sets `EXPECT_N` to what R19 says of the opcode. -/
def IsCommandPhase (op : Opcode) (addr : List Byte) (meaning : State → Result) : Prop :=
  ∃ byteOperation n frame expect, expectOf op = some expect ∧ BuildsRequests frame ∧
    meaning = commandPhase byteOperation n frame expect addr

theorem readCommand_isCommandPhase {op : Opcode} (width : Config.ValueWidth) (addr : List Byte)
    (h : expectOf op = some (2 * width.bytes + 4)) : IsCommandPhase op addr (readCommand width addr) :=
  ⟨true, fun _ => width.bytes, _, _, h, buildsRequests_read width, rfl⟩

theorem writeCommand_isCommandPhase {op : Opcode} (width : Config.ValueWidth) (addr : List Byte) (wdata : Word)
    (h : expectOf op = some 1) : IsCommandPhase op addr (writeCommand width addr wdata) :=
  ⟨true, fun _ => width.bytes, _, _, h, buildsRequests_write width wdata, rfl⟩

theorem execWrBit_isCommandPhase {op : Opcode} (addr : List Byte) (wdata : Word) (h : expectOf op = some 1) :
    IsCommandPhase op addr (execWrBit addr wdata) :=
  ⟨_, _, _, 1, h, buildsRequests_bit _, execWrBit_eq_commandPhase addr wdata⟩

/-- Every opcode is reserved (R63), or its meaning is a local phase (R160, R170). -/
theorem exec_decodeCommand (op : Opcode) (addr : List Byte) (wdata : Word) :
    exec (decodeCommand op addr wdata) = reservedCommand ∨
      IsCommandPhase op addr (exec (decodeCommand op addr wdata)) := by
  unfold decodeCommand
  split <;> rename_i hop
  case h_1 => exact .inr (readCommand_isCommandPhase .one addr (by simp [expectOf, hop]))
  case h_2 => exact .inr (readCommand_isCommandPhase .one addr (by simp [expectOf, hop]))
  case h_3 => exact .inr (readCommand_isCommandPhase .two addr (by simp [expectOf, hop]))
  case h_4 => exact .inr (readCommand_isCommandPhase .four addr (by simp [expectOf, hop]))
  case h_5 => exact .inr (readCommand_isCommandPhase .four addr (by simp [expectOf, hop]))
  case h_9 => exact .inr (execWrBit_isCommandPhase addr wdata (by simp [expectOf, hop]))
  case h_10 => exact .inr (writeCommand_isCommandPhase .one addr wdata (by simp [expectOf, hop]))
  case h_11 => exact .inr (writeCommand_isCommandPhase .two addr wdata (by simp [expectOf, hop]))
  case h_12 => exact .inr (writeCommand_isCommandPhase .four addr wdata (by simp [expectOf, hop]))
  case h_13 => exact .inr (writeCommand_isCommandPhase .four addr wdata (by simp [expectOf, hop]))
  all_goals exact .inl rfl

/-- The local phase ends the command, before or after its address was parsed, or builds the frame. -/
theorem commandPhase_cases (byteOperation : Bool) (n : State → Nat) (frame : Straps → UnitAddr → List Byte)
    (expect : Nat) (addr : List Byte) (s : State) :
    (∃ e, commandPhase byteOperation n frame expect addr s = .next (s.raise e)) ∨
    (∃ area offset e, commandPhase byteOperation n frame expect addr s = .next ((s.setParsed area offset).raise e)) ∨
    (∃ area offset u, commandPhase byteOperation n frame expect addr s =
      .next (s.build area offset u (n s) (frame s.config u) expect)) := by
  unfold commandPhase localPhase
  cases parseAddress addr with
  | error e => exact .inl ⟨e, rfl⟩
  | ok parsed =>
    obtain ⟨area, offset⟩ := parsed
    dsimp only
    cases resolve s.config area offset byteOperation with
    | error e => exact .inr (.inl ⟨area, offset, e, rfl⟩)
    | ok u => exact .inr (.inr ⟨area, offset, u, rfl⟩)

/-- What decodes as a request frame is sent (R131). -/
theorem exec_of_decodeRequest {bytes : List Byte} {i : Instr} (h : decodeRequest bytes = .ok i) :
    ∃ frame, ∀ s, exec i s = .next (s.send frame) := by
  unfold decodeRequest at h
  split at h
  · cases h
  · unfold decodeBody decodeReadTail decodeWriteTail at h
    repeat' split at h
    all_goals cases h
    all_goals exact ⟨_, fun _ => rfl⟩

/-- What decodes as a response is an acknowledgement byte, or six or more bytes that are interpreted as a read response
(R71, R72). -/
theorem exec_of_decodeResponse {bytes : List Byte} {i : Instr} (h : decodeResponse bytes = .ok i) :
    (∃ k, i = .ack k) ∨
    ∃ n rx, ∃ deliver : Opcode → BitVec 3 → Word → Word, 6 ≤ bytes.length ∧
      ∀ s, exec i s = readResponse n rx (deliver s.cmdOp s.bitsel) s := by
  unfold decodeResponse at h
  split at h
  case h_1 k =>
    cases h
    exact .inl ⟨k, rfl⟩
  all_goals
    repeat' split at h
  all_goals cases h
  · exact .inr ⟨1, _, deliverByte, by simp, fun _ => rfl⟩
  · exact .inr ⟨2, _, fun _ _ => id, by simp, fun _ => rfl⟩
  · exact .inr ⟨4, _, fun _ _ => id, by simp, fun _ => rfl⟩

end Sys2Proof.Machine

/-! ## What a step does

SUPPORT for O39, O30, O45, O48 and O52. `EngineMove` lists every next state of the engine's step with the condition under
which the engine goes there; the statements about a step look at this list and do not unfold the step again. -/

namespace Sys2Proof.Machine

theorem step_of_schedule_nil {s : State} (h : s.schedule = []) : step s = engineStep s := by
  simp only [step, systemStep, h]

theorem step_of_schedule_engine {s : State} {rest : List Move} (h : s.schedule = .engine :: rest) :
    step s = engineStep (s.withSchedule rest) := by
  simp only [step, systemStep, h]
  rfl

theorem step_of_schedule_environment {s : State} {m : Move} {rest : List Move} (hm : m ≠ .engine)
    (h : s.schedule = m :: rest) : step s = environmentMove m (s.withSchedule rest) := by
  simp only [step, systemStep, h]
  rfl

theorem engineStep_of_fetch_none {s : State} (h : fetch s = none) : engineStep s = .next (transition s) := by
  simp only [engineStep, h]

theorem engineStep_of_decode_ok {s : State} {code : Code} {i : Instr} (hf : fetch s = some code)
    (hd : decode code = .ok i) : engineStep s = exec i s := by
  simp only [engineStep, hf, hd]

theorem engineStep_of_decode_error {s : State} {code : Code} {e : Reject} (hf : fetch s = some code)
    (hd : decode code = .error e) : engineStep s = undecoded code s := by
  simp only [engineStep, hf, hd]

theorem State.withSchedule_of_nil {s : State} (h : s.schedule = []) : s.withSchedule s.schedule.tail = s := by
  rw [h, List.tail_nil, ← h]
  rfl

/-- The moves of the engine: `EngineMove s t` when a step of the engine may go from `s` to `t`. -/
inductive EngineMove (s : State) : State → Prop where
  /-- Nothing waits (R203), or the poll wait is not over (R136). -/
  | stays : EngineMove s s
  /-- Acceptance (R142). -/
  | accepts {c : Command} {rest : List Command} (free : s.lock = false) (first : s.waiting = c :: rest) :
      EngineMove s (s.accept c rest)
  /-- The command ends before its address is parsed: a bad address or a reserved opcode (R188). -/
  | refuses {e : Err} (held : s.lock = true) (idle : s.tstate = .idle) (unbuilt : s.frameReady = false) :
      EngineMove s (s.raise e)
  /-- The command ends with an address that does not resolve (R188). -/
  | refusesParsed {area : Area} {offset : UnitAddr} {e : Err} (held : s.lock = true) (idle : s.tstate = .idle)
      (unbuilt : s.frameReady = false) : EngineMove s ((s.setParsed area offset).raise e)
  /-- The request frame is built (R120, R127). -/
  | builds {area : Area} {offset u : UnitAddr} {n : Nat} {frame : List Byte} {expect : Nat} (held : s.lock = true)
      (idle : s.tstate = .idle) (unbuilt : s.frameReady = false) (expects : expectOf s.cmdOp = some expect)
      (request : isRequest frame = true) (fits : frame.length ≤ 19) :
      EngineMove s (s.build area offset u n frame expect)
  /-- The frame goes to the channel (R131). -/
  | sends {frame : List Byte} (held : s.lock = true) (idle : s.tstate = .idle) (built : s.frameReady = true) :
      EngineMove s (s.send frame)
  /-- `Sent → AwaitingLength` (R132). -/
  | recordsDeadline (held : s.lock = true) (sent : s.tstate = .sent) : EngineMove s s.recordDeadline
  /-- `AwaitingLength → Complete` (R134). -/
  | takesResponse (held : s.lock = true) (awaiting : s.tstate = .awaitingLength) : EngineMove s s.takeResponse
  /-- `AwaitingLength → TimedOut` (R135). -/
  | givesUp (held : s.lock = true) (awaiting : s.tstate = .awaitingLength) : EngineMove s s.giveUp
  /-- A poll wait starts (R136). -/
  | startsWait (held : s.lock = true) (awaiting : s.tstate = .awaitingLength) : EngineMove s s.startWait
  /-- The transaction ends (R137, R139). A new `RDATA` is that of a read response (R187). -/
  | completes {err : Err} {ackOk : Bool} {rdata : Word} (held : s.lock = true)
      (ended : s.tstate = .complete ∨ s.tstate = .timedOut)
      (delivers : rdata ≠ s.rdata → s.tstate = .complete ∧ 6 ≤ s.expectN.toNat ∧ err = .ok ∧ ackOk = false) :
      EngineMove s (s.finish err ackOk rdata)

/-! ### Every step of the engine is one of these moves -/

theorem EngineMove.of_await {s : State} (held : s.lock = true) (awaiting : s.tstate = .awaitingLength) :
    EngineMove s s.await := by
  obtain ⟨d, -, -, h⟩ | ⟨-, ⟨-, h⟩ | ⟨-, -, h⟩ | ⟨-, -, h⟩⟩ := await_cases s
  all_goals rw [h]
  · exact .stays
  · exact .takesResponse held awaiting
  · exact .givesUp held awaiting
  · exact .startsWait held awaiting

/-- A fault that ends a transaction keeps `RDATA` (R186). -/
theorem EngineMove.of_raise {s : State} (err : Err) (held : s.lock = true)
    (ended : s.tstate = .complete ∨ s.tstate = .timedOut) : EngineMove s (s.raise err) :=
  .completes held ended fun new => absurd rfl new

theorem EngineMove.of_transition {s : State} (h : fetch s = none) : EngineMove s (transition s) := by
  obtain ⟨-, -, ht⟩ | ⟨c, rest, free, first, ht⟩ | ⟨held, sent, ht⟩ | ⟨held, awaiting, ht⟩ | ⟨held, complete, -, ht⟩ |
    ⟨held, timedOut, ht⟩ := transition_cases h
  all_goals rw [ht]
  · exact .stays
  · exact .accepts free first
  · exact .recordsDeadline held sent
  · exact .of_await held awaiting
  · exact .of_raise _ held (.inl complete)
  · exact .of_raise _ held (.inr timedOut)

theorem EngineMove.of_exec_command {s t : State} {addr : List Byte} {wdata : Word} (held : s.lock = true)
    (idle : s.tstate = .idle) (unbuilt : s.frameReady = false)
    (h : exec (decodeCommand s.cmdOp addr wdata) s = .next t) : EngineMove s t := by
  obtain hr | ⟨byteOperation, n, frame, expect, expects, builds, hc⟩ := exec_decodeCommand s.cmdOp addr wdata
  · rw [hr] at h
    cases h
    exact .refuses held idle unbuilt
  · rw [hc] at h
    obtain ⟨e, hp⟩ | ⟨area, offset, e, hp⟩ | ⟨area, offset, u, hp⟩ :=
        commandPhase_cases byteOperation n frame expect addr s <;>
      rw [hp] at h <;> cases h
    · exact .refuses held idle unbuilt
    · exact .refusesParsed held idle unbuilt
    · obtain ⟨request, fits⟩ := builds s.config u
      exact .builds held idle unbuilt expects request fits

theorem EngineMove.of_exec_response {s t : State} {i : Instr} (held : s.lock = true) (complete : s.tstate = .complete)
    (hd : decodeResponse (s.rxBuf.take s.expectN.toNat) = .ok i) (h : exec i s = .next t) : EngineMove s t := by
  obtain ⟨k, rfl⟩ | ⟨n, rx, deliver, six, hx⟩ := exec_of_decodeResponse hd
  · cases h
    exact .completes held (.inl complete) fun new => absurd rfl new
  · rw [hx] at h
    obtain ⟨-, hr⟩ | ⟨v, -, hr⟩ := readResponse_cases n rx (deliver s.cmdOp s.bitsel) s <;> rw [hr] at h <;> cases h
    · exact .of_raise _ held (.inl complete)
    · exact .completes held (.inl complete) fun _ => ⟨complete, six.trans (List.length_take_le _ _), rfl, rfl⟩

theorem EngineMove.of_engineStep {s t : State} (h : engineStep s = .next t) : EngineMove s t := by
  obtain ⟨hf, hs⟩ | ⟨code, i, hf, hd, hs⟩ | ⟨code, e, hf, hd, hs⟩ := engineStep_cases s <;> rw [hs] at h
  · cases h
    exact .of_transition hf
  · obtain ⟨held, ⟨idle, built, rfl⟩ | ⟨idle, unbuilt, rfl⟩ | ⟨complete, -, rfl⟩⟩ := fetch_cases hf
    · obtain ⟨frame, hx⟩ := exec_of_decodeRequest hd
      rw [hx] at h
      cases h
      exact .sends held idle built
    · cases hd
      exact .of_exec_command held idle unbuilt h
    · exact .of_exec_response held complete hd h
  · obtain ⟨held, ⟨-, -, rfl⟩ | ⟨-, -, rfl⟩ | ⟨complete, -, rfl⟩⟩ := fetch_cases hf
    · cases h
    · cases hd
    · cases h
      exact .of_raise _ held (.inl complete)

/-- A step is a move of the environment that the schedule names, or a move of the engine. -/
theorem step_next_cases {s t : State} (h : step s = .next t) :
    (∃ m, s.schedule.head? = some m ∧ environmentMove m (s.withSchedule s.schedule.tail) = .next t) ∨
    EngineMove (s.withSchedule s.schedule.tail) t := by
  obtain ⟨hs, he⟩ | ⟨rest, hs, he⟩ | ⟨m, rest, -, hs, he⟩ := step_cases s <;> rw [he] at h
  · rw [State.withSchedule_of_nil hs]
    exact .inr (.of_engineStep h)
  · rw [hs]
    exact .inr (.of_engineStep h)
  · rw [hs]
    exact .inl ⟨m, rfl, h⟩

/-- A move of the environment other than reset touches only what the environment and the requesters write. -/
theorem environmentMove_frame {m : Move} {s t : State} (hm : m ≠ .reset) (h : environmentMove m s = .next t) :
    t = { s with
      timeout := t.timeout, pollInterval := t.pollInterval, rxq := t.rxq, chReadLimit := t.chReadLimit
      clock := t.clock, waiting := t.waiting, readLog := t.readLog } := by
  obtain ⟨_, _, -, -, -, he⟩ | ⟨_, _, -, -, _, he⟩ | ⟨-, he⟩ | ⟨_, -, he⟩ | ⟨_, -, he⟩ | ⟨_, -, he⟩ | ⟨_, -, he⟩ |
    ⟨_, -, he⟩ | ⟨_, -, he⟩ | ⟨hr, -⟩ := environmentMove_cases m s
  case inr.inr.inr.inr.inr.inr.inr.inr.inr => exact absurd hr hm
  all_goals
    rw [he] at h
    cases h
  all_goals rfl

/-- No move of the environment takes a waiting command away. -/
theorem environmentMove_waiting {m : Move} {s t : State} (h : environmentMove m s = .next t) :
    ∀ c ∈ s.waiting, c ∈ t.waiting := by
  intro c hc
  cases m with
  | submit place new =>
    obtain ⟨place', new', -, -, -, he⟩ | ⟨_, _, -, -, _, he⟩ | hm := environmentMove_cases (.submit place new) s
    · rw [he] at h
      cases h
      exact (insertAt_perm place' new' s.waiting).mem_iff.mpr (List.mem_cons_of_mem _ hc)
    · rw [he] at h
      cases h
    · simp at hm
  | engine | tick | arrive | writeTimeout | writePollInterval | readReg | shortRead | reset =>
    cases h
    exact hc

/-! ### The latch, the waiting commands, `CONFIG` and `RDATA` under the moves of the engine -/

/-- While the lock is held the engine keeps the latch and the waiting commands. -/
theorem EngineMove.latch_kept {s t : State} (h : EngineMove s t) (held : s.lock = true) :
    t.cmdOp = s.cmdOp ∧ t.cmdReq = s.cmdReq ∧ t.cmdAddr = s.cmdAddr ∧ t.cmdAddrLen = s.cmdAddrLen ∧
      t.cmdWdata = s.cmdWdata ∧ t.waiting = s.waiting := by
  cases h with
  | accepts free => exact absurd held (by simp [free])
  | stays | refuses | refusesParsed | builds | sends | recordsDeadline | takesResponse | givesUp | startsWait |
    completes => exact ⟨rfl, rfl, rfl, rfl, rfl, rfl⟩

theorem EngineMove.config_kept {s t : State} (h : EngineMove s t) : t.config = s.config := by
  cases h <;> rfl

/-- The engine writes `RDATA` only where a read response completes its command with `OK`. -/
theorem EngineMove.rdata_written {s t : State} (h : EngineMove s t) (new : t.rdata ≠ s.rdata) :
    s.lock = true ∧ s.tstate = .complete ∧ 6 ≤ s.expectN.toNat ∧ t.status.err = .ok ∧ t.status.ackOk = false := by
  cases h with
  | completes held _ delivers =>
    obtain ⟨complete, six, ok, noAck⟩ := delivers new
    exact ⟨held, complete, six, ok, noAck⟩
  | stays | accepts | refuses | refusesParsed | builds | sends | recordsDeadline | takesResponse | givesUp |
    startsWait => exact absurd rfl new

/-! ### The statements that follow from the list of moves -/

/-- Settles O30: the engine accepts with a free lock only, and of the environment's moves reset alone writes the latch. -/
theorem latchIsStableWhileLocked : Obligations.LatchIsStableWhileLocked := by
  intro s t h held
  obtain ⟨m, hm, he⟩ | move := step_next_cases h
  · refine ⟨fun noReset => ?_, (environmentMove_waiting he :)⟩
    have frame := environmentMove_frame (fun hr => noReset (hr ▸ hm)) he
    exact ⟨(congrArg State.cmdOp frame :), (congrArg State.cmdReq frame :), (congrArg State.cmdAddr frame :),
      (congrArg State.cmdAddrLen frame :), (congrArg State.cmdWdata frame :)⟩
  · obtain ⟨op, req, addr, len, wdata, waiting⟩ := move.latch_kept held
    exact ⟨fun _ => ⟨op, req, addr, len, wdata⟩, fun c hc => waiting ▸ hc⟩

/-- Settles O45: no move of the engine or of the environment writes `CONFIG`, and reset keeps the straps. -/
theorem configNeverChanges : Obligations.ConfigNeverChanges := by
  intro s t h
  obtain ⟨m, -, he⟩ | move := step_next_cases h
  · by_cases hm : m = .reset
    · subst hm
      cases he
      rfl
    · exact (congrArg State.config (environmentMove_frame hm he) :)
  · exact move.config_kept

/-- Settles O48: of all moves only a completion by a read response writes `RDATA`. -/
theorem onlyReadCompletionsWriteRdata : Obligations.OnlyReadCompletionsWriteRdata := by
  intro s t h noReset new
  obtain ⟨m, hm, he⟩ | move := step_next_cases h
  · exact absurd (congrArg State.rdata (environmentMove_frame (fun hr => noReset (hr ▸ hm)) he) :) new
  · exact move.rdata_written new

/-- Settles O5: a step is the engine's, and the engine fetches the same code whatever its schedule is. -/
theorem stepRunsTheDecodedInstruction : Obligations.StepRunsTheDecodedInstruction := by
  intro s
  refine ⟨fun code i hf hd => ⟨fun hs => ?_, fun rest hs => ?_⟩, fun hf => ⟨fun hs => ?_, fun rest hs => ?_⟩,
    fun code e hf hd => ⟨fun hs => ?_, fun rest hs => ?_⟩⟩
  · rw [step_of_schedule_nil hs, engineStep_of_decode_ok hf hd]
  · rw [step_of_schedule_engine hs, engineStep_of_decode_ok (s := s.withSchedule rest) hf hd]
    rfl
  · rw [step_of_schedule_nil hs, engineStep_of_fetch_none hf]
  · rw [step_of_schedule_engine hs, engineStep_of_fetch_none (s := s.withSchedule rest) hf]
    rfl
  · rw [step_of_schedule_nil hs, engineStep_of_decode_error hf hd]
  · rw [step_of_schedule_engine hs, engineStep_of_decode_error (s := s.withSchedule rest) hf hd]
    rfl

end Sys2Proof.Machine

/-! ## Reset and the invariant

SUPPORT for O39 and O41. Each operation that a step is made of keeps `State.Inv`; only the clauses that the operation can
touch are proved, the others are those of the state before. -/

namespace Sys2Proof.Machine

/-- Settles O41: every clause is about values that `State.reset` fixes, none about an OPEN parameter. -/
theorem resetMeetsTheInvariant : Obligations.ResetMeetsTheInvariant where
  busyIsLock := rfl
  freeIdle := by decide
  frameBuilt := by decide
  addrSize := rfl
  addrLen := by decide
  txSize := rfl
  rxSize := rfl
  waitingFit := by decide
  oneEach := by decide
  notInFlight := by decide
  expectsItsOpcode := fun h => absurd h (by simp [State.inTransaction, State.reset])
  gotAtMost := by decide
  holdOnlyAwaiting := by decide

/-! ### What the invariant says in the states of a transaction -/

theorem State.Inv.noHold {s : State} (h : s.Inv) (ht : s.tstate ≠ .awaitingLength) : s.pollHold = none := by
  by_contra hold
  exact ht (h.holdOnlyAwaiting hold).1

theorem State.Inv.unbuilt {s : State} (h : s.Inv) (ht : s.tstate ≠ .idle) : s.frameReady = false := by
  by_contra built
  exact ht (h.frameBuilt (by simpa using built)).1

/-- A free engine is in no transaction (R21). -/
theorem State.Inv.not_inTransaction {s : State} (h : s.Inv) (free : s.lock = false) : ¬ s.inTransaction := by
  obtain ⟨idle, unbuilt⟩ := h.freeIdle free
  simp [State.inTransaction, idle, unbuilt]

/-- No response is longer than `RXBUF` (R19, R20). -/
theorem expectOf_le {op : Opcode} {n : Nat} (h : expectOf op = some n) : n ≤ 12 := by
  unfold expectOf at h
  split at h <;> cases h <;> decide

/-! ### Each operation keeps the invariant -/

theorem State.Inv.withSchedule {s : State} (h : s.Inv) (moves : List Move) : (s.withSchedule moves).Inv := { h with }

theorem State.Inv.accept {s : State} {c : Command} {rest : List Command} (h : s.Inv) (free : s.lock = false)
    (first : s.waiting = c :: rest) : (s.accept c rest).Inv := by
  have fits : c.addr.length ≤ 8 := addrFits_iff.mp (h.waitingFit c (by simp [first]))
  obtain ⟨notAgain, restEach⟩ : c.req ∉ rest.map Command.req ∧ (rest.map Command.req).Nodup := by
    simpa [first] using h.oneEach
  exact { h with
    busyIsLock := rfl
    freeIdle := fun free' => nomatch free'
    addrSize := (overlay_length (fits.trans h.addrSize.ge)).trans h.addrSize
    addrLen := by
      simp only [State.accept_cmdAddrLen, BitVec.toNat_ofNat, Config.addrLenMax]
      omega
    waitingFit := fun w hw => h.waitingFit w (first ▸ List.mem_cons_of_mem c hw)
    oneEach := restEach
    notInFlight := fun _ w hw same => notAgain (List.mem_map.mpr ⟨w, hw, same⟩)
    expectsItsOpcode := fun inTransaction => absurd inTransaction (h.not_inTransaction free) }

theorem State.Inv.setParsed {s : State} (h : s.Inv) (area : Area) (offset : UnitAddr) :
    (s.setParsed area offset).Inv := { h with }

/-- A completion outside `AwaitingLength` and with no request built leaves a free, idle engine. -/
theorem State.Inv.finish {s : State} (h : s.Inv) (ht : s.tstate ≠ .awaitingLength) (unbuilt : s.frameReady = false)
    (err : Err) (ackOk : Bool) (rdata : Word) : (s.finish err ackOk rdata).Inv :=
  { h with
    busyIsLock := rfl
    freeIdle := fun _ => ⟨rfl, unbuilt⟩
    frameBuilt := fun built => absurd built (by simp [unbuilt])
    notInFlight := fun held => nomatch held
    expectsItsOpcode := fun inTransaction => absurd inTransaction (by simp [State.inTransaction, unbuilt])
    gotAtMost := fun complete => nomatch complete
    holdOnlyAwaiting := fun hold => absurd (h.noHold ht) hold }

theorem State.Inv.build {s : State} {frame : List Byte} {expect : Nat} (h : s.Inv) (held : s.lock = true)
    (idle : s.tstate = .idle) (expects : expectOf s.cmdOp = some expect) (request : isRequest frame = true)
    (fits : frame.length ≤ 19) (area : Area) (offset u : UnitAddr) (n : Nat) :
    (s.build area offset u n frame expect).Inv :=
  { h with
    freeIdle := fun free => absurd (held.symm.trans free) (by decide)
    frameBuilt := fun _ => ⟨idle, by
      rw [State.build, txBuf_setFrame expect (by omega)]
      exact request⟩
    txSize := (overlay_length (fits.trans h.txSize.ge)).trans h.txSize
    expectsItsOpcode := fun _ => by
      have small := expectOf_le expects
      have same : (BitVec.ofNat 10 expect).toNat = expect := by
        rw [BitVec.toNat_ofNat]
        omega
      exact expects.trans (congrArg some same.symm)
    gotAtMost := fun complete => nomatch idle.symm.trans complete }

theorem State.Inv.send {s : State} (h : s.Inv) (held : s.lock = true) (built : s.frameReady = true)
    (frame : List Byte) : (s.send frame).Inv :=
  { h with
    freeIdle := fun free => absurd (held.symm.trans free) (by decide)
    frameBuilt := fun built' => nomatch built'
    expectsItsOpcode := fun _ => h.expectsItsOpcode (.inl built)
    gotAtMost := fun complete => nomatch complete
    holdOnlyAwaiting := fun hold => absurd (h.noHold (by simp [(h.frameBuilt built).1])) hold }

theorem State.Inv.recordDeadline {s : State} (h : s.Inv) (held : s.lock = true) (sent : s.tstate = .sent) :
    s.recordDeadline.Inv :=
  { h with
    freeIdle := fun free => absurd (held.symm.trans free) (by decide)
    frameBuilt := fun built => absurd (h.unbuilt (by simp [sent])) (by simpa using built)
    expectsItsOpcode := fun _ => h.expectsItsOpcode (.inr (by simp [sent]))
    gotAtMost := fun complete => nomatch complete
    holdOnlyAwaiting := fun hold => absurd rfl hold }

theorem State.Inv.takeResponse {s : State} (h : s.Inv) (held : s.lock = true) (awaiting : s.tstate = .awaitingLength) :
    s.takeResponse.Inv := by
  have expects := h.expectsItsOpcode (.inr (by simp [awaiting]))
  have got : (s.rxq.take (s.chReadCount s.expectN.toNat)).length ≤ s.expectN.toNat :=
    (List.length_take_le _ _).trans (chReadCount_le s _)
  exact { h with
    freeIdle := fun free => absurd (held.symm.trans free) (by decide)
    frameBuilt := fun built => absurd (h.unbuilt (by simp [awaiting])) (by simpa using built)
    rxSize := (overlay_length (got.trans ((expectOf_le expects).trans h.rxSize.ge))).trans h.rxSize
    expectsItsOpcode := fun _ => expects
    gotAtMost := fun _ => got
    holdOnlyAwaiting := fun hold => absurd rfl hold }

theorem State.Inv.giveUp {s : State} (h : s.Inv) (held : s.lock = true) (awaiting : s.tstate = .awaitingLength) :
    s.giveUp.Inv :=
  { h with
    freeIdle := fun free => absurd (held.symm.trans free) (by decide)
    frameBuilt := fun built => absurd (h.unbuilt (by simp [awaiting])) (by simpa using built)
    expectsItsOpcode := fun _ => h.expectsItsOpcode (.inr (by simp [awaiting]))
    gotAtMost := fun complete => nomatch complete
    holdOnlyAwaiting := fun hold => absurd rfl hold }

theorem State.Inv.startWait {s : State} (h : s.Inv) (awaiting : s.tstate = .awaitingLength) : s.startWait.Inv :=
  { h with holdOnlyAwaiting := fun _ => ⟨awaiting, Nat.le_refl _⟩ }

theorem State.Inv.engineReset {s : State} (h : s.Inv) : s.engineReset.Inv :=
  { resetMeetsTheInvariant with
    waitingFit := h.waitingFit
    oneEach := h.oneEach
    notInFlight := fun held => nomatch held
    holdOnlyAwaiting := fun hold => absurd rfl hold }

/-- A submission of a requester that is not blocked keeps one command of each requester (R201). -/
theorem State.Inv.submit {s : State} {c : Command} (h : s.Inv) (fits : c.wellFormed = true)
    (unblocked : s.blocked c.req = false) (place : Nat) :
    ({ s with waiting := insertAt place c s.waiting } : State).Inv := by
  obtain ⟨notInFlight, notWaiting⟩ := blocked_eq_false_iff.mp unblocked
  have perm := insertAt_perm place c s.waiting
  exact { h with
    waitingFit := fun w hw => by
      obtain rfl | old := List.mem_cons.mp (perm.mem_iff.mp hw)
      · exact fits
      · exact h.waitingFit w old
    oneEach := by
      rw [(perm.map Command.req).nodup_iff, List.map_cons, List.nodup_cons]
      refine ⟨fun twice => ?_, h.oneEach⟩
      obtain ⟨w, hw, same⟩ := List.mem_map.mp twice
      exact notWaiting w hw same.symm
    notInFlight := fun held w hw => by
      obtain rfl | old := List.mem_cons.mp (perm.mem_iff.mp hw)
      · exact notInFlight held
      · exact h.notInFlight held w old }

/-! ### Every step keeps the invariant -/

theorem EngineMove.inv_kept {s t : State} (h : EngineMove s t) (inv : s.Inv) : t.Inv := by
  cases h with
  | stays => exact inv
  | accepts free first => exact inv.accept free first
  | refuses _ idle unbuilt => exact inv.finish (by simp [idle]) unbuilt _ _ _
  | refusesParsed _ idle unbuilt => exact (inv.setParsed _ _).finish (by simp [idle]) unbuilt _ _ _
  | builds held idle _ expects request fits => exact inv.build held idle expects request fits _ _ _ _
  | sends held _ built => exact inv.send held built _
  | recordsDeadline held sent => exact inv.recordDeadline held sent
  | takesResponse held awaiting => exact inv.takeResponse held awaiting
  | givesUp held awaiting => exact inv.giveUp held awaiting
  | startsWait _ awaiting => exact inv.startWait awaiting
  | completes _ ended =>
    obtain ended | ended := ended <;> exact inv.finish (by simp [ended]) (inv.unbuilt (by simp [ended])) _ _ _

theorem environmentMove_inv_kept {m : Move} {s t : State} (h : environmentMove m s = .next t) (inv : s.Inv) :
    t.Inv := by
  obtain ⟨place, c, -, fits, unblocked, he⟩ | ⟨_, _, -, -, _, he⟩ | ⟨-, he⟩ | ⟨d, -, he⟩ | ⟨_, -, he⟩ | ⟨_, -, he⟩ |
    ⟨_, -, he⟩ | ⟨_, -, he⟩ | ⟨_, -, he⟩ | ⟨-, he⟩ := environmentMove_cases m s
  all_goals
    rw [he] at h
    cases h
  case inl => exact inv.submit fits unblocked place
  case inr.inr.inl => exact inv
  case inr.inr.inr.inl =>
    exact { inv with
      holdOnlyAwaiting := fun hold => by
        obtain ⟨awaiting, past⟩ := inv.holdOnlyAwaiting hold
        exact ⟨awaiting, Nat.le_add_right_of_le past⟩ }
  case inr.inr.inr.inr.inr.inr.inr.inr.inr => exact inv.engineReset
  all_goals exact { inv with }

/-- Settles O39: a step is a move of the environment or of the engine, and each of them keeps the invariant. -/
theorem everyStepKeepsTheInvariant : Obligations.EveryStepKeepsTheInvariant := by
  intro s t inv h
  obtain ⟨m, -, he⟩ | move := step_next_cases h
  · exact environmentMove_inv_kept he (inv.withSchedule _)
  · exact move.inv_kept (inv.withSchedule _)

end Sys2Proof.Machine

/-! ## Placed instructions and the requesters' registers

The statements of O3, O36, O40 and O57, each with the facts about the model's functions that it rests on. -/

namespace Sys2Proof.Machine

/-! ### Placing an instruction -/

/-- The code fits the register that tells its length: `CMD_ADDR_LEN`, `TX_LEN` or `EXPECT_N`. -/
def CodeFits : Code → Prop
  | .command _ addr _ => addr.length < 2 ^ 4
  | .request bytes => bytes.length < 2 ^ 5
  | .response bytes => bytes.length < 2 ^ 10

/-- Code that is placed is fetched whole. -/
theorem fetch_placeCode {code : Code} (h : CodeFits code) (s : State) : fetch (placeCode code s) = some code := by
  cases code with
  | command op addr wdata =>
    have len : addr.length % 16 = addr.length := Nat.mod_eq_of_lt h
    simp [placeCode, fetch, State.latchedAddr, len]
  | request bytes =>
    have len : bytes.length % 32 = bytes.length := Nat.mod_eq_of_lt h
    simp [placeCode, fetch, len]
  | response bytes =>
    have len : bytes.length % 1024 = bytes.length := Nat.mod_eq_of_lt h
    simp [placeCode, fetch, len]

theorem placeCode_schedule (code : Code) (s : State) : (placeCode code s).schedule = [] := by
  cases code <;> rfl

/-- A well-formed instruction is encoded in no more characters than the latch and the buffers hold (R10, R12, R77). -/
theorem encode_fits {i : Instr} (h : i.wellFormed = true) : CodeFits (encode i) := by
  cases i with
  | rdBit a | rdByte a | rdU16 a | rdU32 a | rdF32 a | wrBit a | wrByte a | wrU16 a | wrU32 a | wrF32 a =>
    exact Nat.lt_of_le_of_lt (addrFits_iff.mp h) (by decide)
  | reserved0101 | reserved0110 | reserved0111 | reserved1101 | reserved1110 | reserved1111 =>
    exact Nat.two_pow_pos 4
  | read1 | read2 | read4 => simp [encode, CodeFits, buildRead_length]
  | write1 | write2 | write4 => simp [encode, CodeFits, buildWrite_length]
  | setBit | resetBit => simp [encode, CodeFits, buildBit_length]
  | ack | rdresp1 | rdresp2 | rdresp4 => simp [encode, CodeFits]

/-- Settles O3: what is placed is fetched whole, and it decodes to the instruction that was encoded. -/
theorem placedInstructionIsFetchedAndRun : Obligations.PlacedInstructionIsFetchedAndRun := by
  intro i s h
  have fetched := fetch_placeCode (encode_fits h) s
  refine ⟨fetched, ?_⟩
  rw [step_of_schedule_nil (placeCode_schedule _ s), engineStep_of_decode_ok fetched (decode_encode i)]

/-! ### The requesters' registers and the moves of clock and controller -/

/-- A move that is not the engine's is the environment's, taken off the schedule. -/
theorem step_environment_cons (s : State) (m : Move) (hm : m ≠ .engine) (rest : List Move) :
    step { s with schedule := m :: rest } = environmentMove m { s with schedule := rest } :=
  step_of_schedule_environment hm rfl

/-- The bits of `STATUS` as a number (R24). -/
theorem statusBits_toNat (st : Status) :
    (statusBits st).toNat =
      st.busy.toNat + 2 * st.done.toNat + 4 * st.ackOk.toNat + 8 * (errCode st.err).toNat := by
  obtain ⟨busy, done, ackOk, err⟩ := st
  cases err <;> revert busy done ackOk <;> decide

/-- The bits of `CONFIG` as a number (R28). -/
theorem configBits_toNat (c : Straps) :
    (configBits c).toNat = c.yBase0400.toNat + 2 * c.tBitEn.toNat + 4 * c.dataLsbFirst.toNat := by
  obtain ⟨yBase0400, tBitEn, dataLsbFirst⟩ := c
  revert yBase0400 tBitEn dataLsbFirst
  decide

/-- An eight-bit register reads zero-extended. -/
theorem setWidth_32_toNat (b : Byte) : (b.setWidth 32).toNat = b.toNat :=
  BitVec.toNat_setWidth_of_le (by decide)

/-- Settles O36: the two writes and the read are moves of the environment, and what is read is `State.readReg`. -/
theorem registerAccesses : Obligations.RegisterAccesses := by
  intro s rest v r
  refine ⟨step_environment_cons s (.writeTimeout v) nofun rest, step_environment_cons s (.writePollInterval v) nofun rest,
    s.readReg r, step_environment_cons s (.readReg r) nofun rest, ?_⟩
  cases r with
  | status =>
    rw [State.readReg, setWidth_32_toNat, statusBits_toNat]
    cases s.status.err <;> rfl
  | config => rw [State.readReg, setWidth_32_toNat, configBits_toNat]
  | rdata | timeout | pollInterval => rfl

/-- Settles O57: neither move looks at anything but the register it names. -/
theorem clockAndControllerTouchNothingElse : Obligations.ClockAndControllerTouchNothingElse := fun s rest d bytes =>
  ⟨step_environment_cons s (.tick d) nofun rest, step_environment_cons s (.arrive bytes) nofun rest⟩

/-- Settles O40: `T_BIT_EN` and `DATA_LSB_FIRST` are fixed, so `CONFIG` depends on the OPEN strap alone. -/
theorem resetValuesOfTheSpec : Obligations.ResetValuesOfTheSpec := by
  refine ⟨rfl, rfl, by decide, rfl, rfl, rfl, ?_⟩
  have bits : ∀ y : Bool, configBits ⟨y, false, true⟩ = if y then 0b00000101#8 else 0b00000100#8 := by decide
  exact bits Config.yBase0400

end Sys2Proof.Machine

/-! ## The unspecified registers

SUPPORT for O52. Two machines are `Alike` when they agree on what R31 gives a value, on the environment, and on those
unspecified registers that the command in flight has already written: the latch under the lock, `BITSEL` and `EXPECT_N`
in a transaction, and so on. The engine reads no other register, so a step keeps two such machines alike. -/

namespace Sys2Proof.Machine

/-- The two machines agree on all that the engine, in the state it is in, may still read. -/
structure Alike (s t : State) : Prop where
  specified : s.specified = t.specified
  /-- The latch is written at acceptance (R142). -/
  latch : s.lock = true →
    s.cmdOp = t.cmdOp ∧ s.cmdReq = t.cmdReq ∧ s.latchedAddr = t.latchedAddr ∧ s.cmdWdata = t.cmdWdata
  /-- `BITSEL` and `EXPECT_N` are written before the request is built (R18, R19). -/
  operands : s.inTransaction → s.bitsel = t.bitsel ∧ s.expectN = t.expectN
  /-- A built request stands in `TXBUF` up to `TX_LEN` (R20). -/
  request : s.frameReady = true → s.txBuf.take s.txLen.toNat = t.txBuf.take t.txLen.toNat
  /-- `DEADLINE` is written on the way to `AwaitingLength` (R132), `T_POLL` at the start of a wait (R136). -/
  wait : s.tstate = .awaitingLength →
    s.deadline = t.deadline ∧ s.pollHold = t.pollHold ∧ (s.pollHold ≠ none → s.tPoll = t.tPoll)
  /-- Of `RXBUF` only a whole response is read (R134, R141). -/
  response : s.tstate = .complete →
    s.rxGot = t.rxGot ∧
      (s.expectN.toNat ≤ s.rxGot → s.rxBuf.take s.expectN.toNat = t.rxBuf.take s.expectN.toNat)

/-! ### What alike machines agree on -/

section
variable {s t : State} (h : Alike s t)
include h

theorem Alike.lock_eq : s.lock = t.lock := (congrArg State.lock h.specified :)
theorem Alike.tstate_eq : s.tstate = t.tstate := (congrArg State.tstate h.specified :)
theorem Alike.frameReady_eq : s.frameReady = t.frameReady := (congrArg State.frameReady h.specified :)
theorem Alike.rdata_eq : s.rdata = t.rdata := (congrArg State.rdata h.specified :)
theorem Alike.timeout_eq : s.timeout = t.timeout := (congrArg State.timeout h.specified :)
theorem Alike.pollInterval_eq : s.pollInterval = t.pollInterval := (congrArg State.pollInterval h.specified :)
theorem Alike.config_eq : s.config = t.config := (congrArg State.config h.specified :)
theorem Alike.rxq_eq : s.rxq = t.rxq := (congrArg State.rxq h.specified :)
theorem Alike.clock_eq : s.clock = t.clock := (congrArg State.clock h.specified :)
theorem Alike.waiting_eq : s.waiting = t.waiting := (congrArg State.waiting h.specified :)
theorem Alike.schedule_eq : s.schedule = t.schedule := (congrArg State.schedule h.specified :)

theorem Alike.chReadCount_eq (n : Nat) : s.chReadCount n = t.chReadCount n :=
  (congrArg (State.chReadCount · n) h.specified :)

theorem Alike.fetch_eq : fetch s = fetch t := by
  unfold fetch
  rw [← h.lock_eq]
  cases held : s.lock with
  | false => rfl
  | true =>
    rw [← h.tstate_eq]
    cases ts : s.tstate with
    | sent | awaitingLength | timedOut => rfl
    | idle =>
      obtain ⟨op, -, addr, wdata⟩ := h.latch held
      dsimp only
      rw [← h.frameReady_eq, op, addr, wdata]
      cases built : s.frameReady with
      | false => rfl
      | true => rw [h.request built]
    | complete =>
      obtain ⟨-, expects⟩ := h.operands (.inr (by simp [ts]))
      obtain ⟨got, bytes⟩ := h.response ts
      dsimp only
      rw [← got, ← expects]
      by_cases short : s.rxGot < s.expectN.toNat
      · simp only [short, if_true]
      · simp only [short, if_false, bytes (Nat.le_of_not_lt short)]

/-- The requesters that are blocked are the same. -/
theorem Alike.blocked_eq (req : Nat) : s.blocked req = t.blocked req := by
  unfold State.blocked
  rw [← h.lock_eq, ← h.waiting_eq]
  cases held : s.lock with
  | false => rfl
  | true =>
    obtain ⟨-, sameReq, -, -⟩ := h.latch held
    rw [sameReq]

/-! ### Each operation keeps two machines alike -/

theorem Alike.withSchedule (moves : List Move) : Alike (s.withSchedule moves) (t.withSchedule moves) :=
  { h with specified := congrArg (State.withSchedule · moves) h.specified }

theorem Alike.finish (held : s.lock = true) (err : Err) (ackOk : Bool) (rdata : Word) :
    Alike (s.finish err ackOk rdata) (t.finish err ackOk rdata) := by
  obtain ⟨-, req, -, -⟩ := h.latch held
  exact {
    specified := by
      show (State.finish { s.specified with cmdReq := s.cmdReq } err ackOk rdata).specified =
        (State.finish { t.specified with cmdReq := t.cmdReq } err ackOk rdata).specified
      rw [h.specified, req]
    latch := fun held' => nomatch held'
    operands := fun transaction => by
      obtain built | moved := transaction
      · exact h.operands (.inl built)
      · exact absurd rfl moved
    request := h.request
    wait := fun awaiting => nomatch awaiting
    response := fun complete => nomatch complete }

theorem Alike.raise (held : s.lock = true) (err : Err) : Alike (s.raise err) (t.raise err) := by
  rw [State.raise_eq_finish, State.raise_eq_finish, ← h.rdata_eq]
  exact h.finish held err false s.rdata

/-- Acceptance makes the latches equal. -/
theorem Alike.accept {c : Command} (rest : List Command) (idle : s.tstate = .idle) (unbuilt : s.frameReady = false)
    (fits : c.wellFormed = true) : Alike (s.accept c rest) (t.accept c rest) where
  specified := (congrArg (fun x => (State.accept x c rest).specified) h.specified :)
  latch := fun _ => ⟨rfl, rfl, (latchedAddr_accept rest fits).trans (latchedAddr_accept rest fits).symm, rfl⟩
  operands := fun transaction => absurd transaction (by simp [State.inTransaction, idle, unbuilt])
  request := fun built => absurd built (by simp [unbuilt])
  wait := fun awaiting => nomatch idle.symm.trans awaiting
  response := fun complete => nomatch idle.symm.trans complete

theorem Alike.setParsed (idle : s.tstate = .idle) (area : Area) (offset : UnitAddr) :
    Alike (s.setParsed area offset) (t.setParsed area offset) :=
  { h with
    operands := fun transaction => ⟨rfl, (h.operands transaction).2⟩
    response := fun complete => nomatch idle.symm.trans complete }

/-- Building a frame makes `BITSEL`, `EXPECT_N` and the frame in `TXBUF` equal; `LEN` is read by nothing. -/
theorem Alike.build (idle : s.tstate = .idle) (area : Area) (offset u : UnitAddr) (n n' : Nat) {frame : List Byte}
    (fits : frame.length ≤ 19) (expect : Nat) :
    Alike (s.build area offset u n frame expect) (t.build area offset u n' frame expect) where
  specified := congrArg (fun x => { x with frameReady := true }) h.specified
  latch := h.latch
  operands := fun _ => ⟨rfl, rfl⟩
  request := fun _ =>
    (txBuf_setFrame expect (Nat.lt_of_le_of_lt fits (by decide))).trans
      (txBuf_setFrame expect (Nat.lt_of_le_of_lt fits (by decide))).symm
  wait := fun awaiting => nomatch idle.symm.trans awaiting
  response := fun complete => nomatch idle.symm.trans complete

theorem Alike.send (built : s.frameReady = true) (frame : List Byte) : Alike (s.send frame) (t.send frame) where
  specified := congrArg (State.send · frame) h.specified
  latch := h.latch
  operands := fun _ => h.operands (.inl built)
  request := fun built' => nomatch built'
  wait := fun awaiting => nomatch awaiting
  response := fun complete => nomatch complete

theorem Alike.recordDeadline (sent : s.tstate = .sent) : Alike s.recordDeadline t.recordDeadline where
  specified := congrArg (fun x => { x with tstate := .awaitingLength }) h.specified
  latch := h.latch
  operands := fun _ => h.operands (.inr (by simp [sent]))
  request := h.request
  wait := fun _ => ⟨by simp [h.clock_eq, h.timeout_eq], rfl, fun hold => absurd rfl hold⟩
  response := fun complete => nomatch complete

/-- What was read is the start of the same queue. -/
theorem Alike.takeResponse (awaiting : s.tstate = .awaitingLength) : Alike s.takeResponse t.takeResponse := by
  obtain ⟨bitsel, expects⟩ := h.operands (.inr (by simp [awaiting]))
  have got : s.rxq.take (s.chReadCount s.expectN.toNat) = t.rxq.take (t.chReadCount t.expectN.toNat) := by
    rw [h.rxq_eq, h.chReadCount_eq, expects]
  exact {
    specified := by
      show ({ s.specified.chRead s.expectN.toNat with tstate := .complete } : State).specified =
        ({ t.specified.chRead t.expectN.toNat with tstate := .complete } : State).specified
      rw [h.specified, expects]
    latch := h.latch
    operands := fun _ => ⟨bitsel, expects⟩
    request := h.request
    wait := fun awaiting' => nomatch awaiting'
    response := fun _ => by
      refine ⟨congrArg List.length got, fun whole => ?_⟩
      show (overlay _ s.rxBuf).take s.expectN.toNat = (overlay _ t.rxBuf).take s.expectN.toNat
      rw [← got]
      exact (List.take_append_of_le_length whole).trans (List.take_append_of_le_length whole).symm }

theorem Alike.giveUp (awaiting : s.tstate = .awaitingLength) : Alike s.giveUp t.giveUp where
  specified := congrArg (fun x => { x with tstate := .timedOut }) h.specified
  latch := h.latch
  operands := fun _ => h.operands (.inr (by simp [awaiting]))
  request := h.request
  wait := fun awaiting' => nomatch awaiting'
  response := fun complete => nomatch complete

theorem Alike.startWait : Alike s.startWait t.startWait :=
  { h with
    wait := fun awaiting =>
      ⟨(h.wait awaiting).1, congrArg some h.pollInterval_eq, fun _ => h.clock_eq⟩ }

theorem Alike.poll (awaiting : s.tstate = .awaitingLength) : Alike s.poll t.poll := by
  obtain ⟨deadline, -, -⟩ := h.wait awaiting
  obtain ⟨-, expects⟩ := h.operands (.inr (by simp [awaiting]))
  unfold State.poll State.chAvail
  rw [← expects, ← h.rxq_eq, ← deadline, ← h.clock_eq]
  split
  · exact h.takeResponse awaiting
  · split
    · exact h.giveUp awaiting
    · exact h.startWait

theorem Alike.await (awaiting : s.tstate = .awaitingLength) : Alike s.await t.await := by
  obtain ⟨-, hold, sample⟩ := h.wait awaiting
  unfold State.await
  rw [← hold]
  cases held : s.pollHold with
  | none => exact h.poll awaiting
  | some d =>
    dsimp only
    rw [← sample (by simp [held]), ← h.clock_eq]
    split
    · exact h
    · exact h.poll awaiting

end

/-! ### A step keeps two machines alike -/

/-- Two steps end alike: in alike states, or refused for the same reason. -/
def EndAlike : Result → Result → Prop
  | .next s, .next t => Alike s t
  | .refused r, .refused r' => r = r'
  | _, _ => False

theorem Alike.transition {s t : State} (h : Alike s t) (inv : s.Inv) : Alike (transition s) (transition t) := by
  unfold Machine.transition
  rw [← h.lock_eq]
  cases held : s.lock with
  | false =>
    obtain ⟨idle, unbuilt⟩ := inv.freeIdle held
    simp only [idleStep, ← h.waiting_eq, Bool.false_eq_true, if_false]
    cases first : s.waiting with
    | nil => exact h
    | cons c rest => exact h.accept rest idle unbuilt (inv.waitingFit c (by simp [first]))
  | true =>
    rw [← h.tstate_eq]
    cases ts : s.tstate with
    | idle => exact h
    | sent => exact h.recordDeadline ts
    | awaitingLength => exact h.await ts
    | complete => exact h.raise held _
    | timedOut => exact h.raise held _

theorem Alike.commandPhase {s t : State} (h : Alike s t) (held : s.lock = true) (idle : s.tstate = .idle)
    {frame : Straps → UnitAddr → List Byte} (builds : BuildsRequests frame) (byteOperation : Bool) (n : State → Nat)
    (expect : Nat) (addr : List Byte) :
    EndAlike (commandPhase byteOperation n frame expect addr s) (commandPhase byteOperation n frame expect addr t) := by
  unfold Machine.commandPhase localPhase
  rw [← h.config_eq]
  cases parseAddress addr with
  | error e => exact h.raise held e
  | ok parsed =>
    obtain ⟨area, offset⟩ := parsed
    dsimp only
    cases resolve s.config area offset byteOperation with
    | error e => exact (h.setParsed idle area offset).raise held e
    | ok u =>
      dsimp only
      rw [← h.config_eq]
      exact h.build idle area offset u (n s) (n t) (builds s.config u).2 expect

theorem Alike.exec_command {s t : State} (h : Alike s t) (held : s.lock = true) (idle : s.tstate = .idle)
    (op : Opcode) (addr : List Byte) (wdata : Word) :
    EndAlike (exec (decodeCommand op addr wdata) s) (exec (decodeCommand op addr wdata) t) := by
  obtain hr | ⟨byteOperation, n, frame, expect, -, builds, hc⟩ := exec_decodeCommand op addr wdata
  · rw [hr]
    exact h.raise held _
  · rw [hc]
    exact h.commandPhase held idle builds byteOperation n expect addr

theorem Alike.exec_response {s t : State} (h : Alike s t) (held : s.lock = true) (complete : s.tstate = .complete)
    {bytes : List Byte} {i : Instr} (hd : decodeResponse bytes = .ok i) : EndAlike (exec i s) (exec i t) := by
  obtain ⟨k, rfl⟩ | ⟨n, rx, deliver, -, hx⟩ := exec_of_decodeResponse hd
  · show Alike (s.finish .ok (ackFlag k) s.rdata) (t.finish .ok (ackFlag k) t.rdata)
    rw [← h.rdata_eq]
    exact h.finish held _ _ _
  · obtain ⟨op, -, -, -⟩ := h.latch held
    obtain ⟨bitsel, -⟩ := h.operands (.inr (by simp [complete]))
    rw [hx, hx, ← op, ← bitsel]
    unfold readResponse
    rw [← h.config_eq]
    cases interpretRead s.config.dataLsbFirst n rx with
    | none => exact h.raise held _
    | some v => exact h.finish held _ _ _

/-- The engine's steps end alike. A fault is excluded by the invariant: a built request decodes. -/
theorem Alike.engineStep {s t : State} (h : Alike s t) (inv : s.Inv) : EndAlike (engineStep s) (engineStep t) := by
  cases hf : fetch s with
  | none =>
    rw [engineStep_of_fetch_none hf, engineStep_of_fetch_none (h.fetch_eq ▸ hf)]
    exact h.transition inv
  | some code =>
    have hf' : fetch t = some code := h.fetch_eq ▸ hf
    obtain ⟨held, ⟨-, built, rfl⟩ | ⟨idle, -, rfl⟩ | ⟨complete, -, rfl⟩⟩ := fetch_cases hf
    · obtain ⟨i, hd⟩ := isRequest_iff.mp (inv.frameBuilt built).2
      obtain ⟨frame, hx⟩ := exec_of_decodeRequest hd
      rw [engineStep_of_decode_ok hf hd, engineStep_of_decode_ok hf' hd, hx, hx]
      exact h.send built frame
    · rw [engineStep_of_decode_ok hf rfl, engineStep_of_decode_ok hf' rfl]
      exact h.exec_command held idle _ _ _
    · cases hd : decode (.response (s.rxBuf.take s.expectN.toNat)) with
      | ok i =>
        rw [engineStep_of_decode_ok hf hd, engineStep_of_decode_ok hf' hd]
        exact h.exec_response held complete hd
      | error e =>
        rw [engineStep_of_decode_error hf hd, engineStep_of_decode_error hf' hd]
        exact h.raise held _

theorem Alike.environmentMove {s t : State} (h : Alike s t) (m : Move) :
    EndAlike (environmentMove m s) (environmentMove m t) := by
  cases m with
  | engine => exact h
  | tick d =>
    exact { h with specified := congrArg (fun x : State => { x with clock := x.clock + d }) h.specified }
  | arrive bytes =>
    exact { h with specified := congrArg (fun x : State => { x with rxq := x.rxq ++ bytes }) h.specified }
  | writeTimeout v =>
    exact { h with specified := congrArg (fun x : State => { x with timeout := v }) h.specified }
  | writePollInterval v =>
    exact { h with specified := congrArg (fun x : State => { x with pollInterval := v }) h.specified }
  | readReg r =>
    exact { h with
      specified := congrArg (fun x : State => { x with readLog := x.readLog ++ [(r, x.readReg r)] }) h.specified }
  | shortRead k =>
    exact { h with specified := congrArg (fun x : State => { x with chReadLimit := some k }) h.specified }
  | submit place c =>
    dsimp only [Machine.environmentMove]
    rw [← h.blocked_eq]
    split
    · rfl
    · split
      · rfl
      · exact { h with
          specified :=
            congrArg (fun x : State => { x with waiting := insertAt place c x.waiting }) h.specified }
  | reset =>
    exact {
      specified := (congrArg (fun x => (State.engineReset x).specified) h.specified :)
      latch := fun held => nomatch held
      operands := fun _ => ⟨rfl, rfl⟩
      request := fun _ => rfl
      wait := fun awaiting => nomatch awaiting
      response := fun complete => nomatch complete }

theorem Alike.step {s t : State} (h : Alike s t) (inv : s.Inv) : EndAlike (step s) (step t) := by
  obtain ⟨hs, hstep⟩ | ⟨rest, hs, hstep⟩ | ⟨m, rest, hm, hs, hstep⟩ := step_cases s
  · rw [hstep, step_of_schedule_nil (h.schedule_eq ▸ hs)]
    exact h.engineStep inv
  · rw [hstep, step_of_schedule_engine (h.schedule_eq ▸ hs)]
    exact (h.withSchedule rest).engineStep (inv.withSchedule rest)
  · rw [hstep, step_of_schedule_environment hm (h.schedule_eq ▸ hs)]
    exact (h.withSchedule rest).environmentMove m

/-! ### Runs -/

theorem run_succ_of_next {s s' : State} (h : step s = .next s') (k : Nat) :
    Host.Core.run Sys2Proof.core (k + 1) s = Host.Core.run Sys2Proof.core k s' := by
  have hc : Sys2Proof.core.step s = .next s' := h
  simp only [Host.Core.run, hc]

theorem run_succ_of_refused {s : State} {r : Refusal} (h : step s = .refused r) (k : Nat) :
    Host.Core.run Sys2Proof.core (k + 1) s = .refused r := by
  have hc : Sys2Proof.core.step s = .refused r := h
  simp only [Host.Core.run, hc]

theorem Alike.run {s t : State} (k : Nat) (h : Alike s t) (inv : s.Inv) :
    EndAlike (Host.Core.run Sys2Proof.core k s) (Host.Core.run Sys2Proof.core k t) := by
  induction k generalizing s t with
  | zero => exact h
  | succ k ih =>
    have ends := h.step inv
    cases hs : Machine.step s <;> cases ht : Machine.step t <;> rw [hs, ht] at ends
    case next.next s' t' =>
      rw [run_succ_of_next hs, run_succ_of_next ht]
      exact ih ends (everyStepKeepsTheInvariant s s' inv hs)
    case refused.refused r r' =>
      rw [run_succ_of_refused hs, run_succ_of_refused ht]
      exact ends
    all_goals exact ends.elim

/-- With a free lock nothing beyond the specified registers is read. -/
theorem Alike.of_specified {s t : State} (inv : s.Inv) (free : s.lock = false) (h : s.specified = t.specified) :
    Alike s t := by
  obtain ⟨idle, unbuilt⟩ := inv.freeIdle free
  exact {
    specified := h
    latch := fun held => absurd (free.symm.trans held) (by decide)
    operands := fun transaction => absurd transaction (inv.not_inTransaction free)
    request := fun built => absurd (unbuilt.symm.trans built) (by decide)
    wait := fun awaiting => nomatch idle.symm.trans awaiting
    response := fun complete => nomatch idle.symm.trans complete }

/-- Settles O52: machines with a free lock that agree on the specified registers are alike, and every run keeps them so. -/
theorem unspecifiedRegistersNeverMatter : Obligations.UnspecifiedRegistersNeverMatter := by
  intro k s t inv _ free _ same
  have ends := (Alike.of_specified inv free same).run k inv
  cases hs : Host.Core.run Sys2Proof.core k s <;> cases ht : Host.Core.run Sys2Proof.core k t <;> rw [hs, ht] at ends
  case next.next => exact Alike.specified ends
  case refused.refused => exact ends
  all_goals exact ends.elim

end Sys2Proof.Machine

/-! ## One frame in flight

SUPPORT for O51. The engine sends from `Idle` alone, and a transaction that has left `Idle` comes back to it only in a step
that releases the lock: a completion or a reset. So "the lock is free or the transaction has left `Idle`" lasts, with
`TXLOG` unchanged, up to a state with a free lock. -/

namespace Sys2Proof.Machine

/-! ### A step of a transaction that has left `Idle` -/

/-- The engine sends from `Idle` alone (R131). -/
theorem EngineMove.txlog_kept {s t : State} (h : EngineMove s t) (started : s.tstate ≠ .idle) :
    t.txlog = s.txlog := by
  cases h with
  | sends _ idle => exact absurd idle started
  | stays | accepts | refuses | refusesParsed | builds | recordsDeadline | takesResponse | givesUp | startsWait |
    completes => rfl

/-- The engine goes back to `Idle` only in the completing step, which releases the lock (R137, R143). -/
theorem EngineMove.free_or_started {s t : State} (h : EngineMove s t) (started : s.tstate ≠ .idle) :
    t.lock = false ∨ t.tstate ≠ .idle := by
  cases h with
  | stays | accepts | startsWait => exact .inr started
  | refuses _ idle | refusesParsed _ idle | builds _ idle | sends _ idle => exact absurd idle started
  | recordsDeadline | takesResponse | givesUp => exact .inr (by simp)
  | completes => exact .inl rfl

/-- No move of the environment writes `TXLOG` (R197, R212). -/
theorem environmentMove_txlog_kept {m : Move} {s t : State} (h : environmentMove m s = .next t) :
    t.txlog = s.txlog := by
  by_cases hm : m = .reset
  · subst hm
    cases h
    rfl
  · exact (congrArg State.txlog (environmentMove_frame hm h) :)

/-- Of the environment's moves reset alone ends a transaction, and it releases the lock (R210). -/
theorem environmentMove_free_or_started {m : Move} {s t : State} (h : environmentMove m s = .next t)
    (started : s.tstate ≠ .idle) : t.lock = false ∨ t.tstate ≠ .idle := by
  by_cases hm : m = .reset
  · subst hm
    cases h
    exact .inl rfl
  · have kept : t.tstate = s.tstate := (congrArg State.tstate (environmentMove_frame hm h) :)
    exact .inr (kept ▸ started)

theorem step_of_started {s t : State} (h : step s = .next t) (started : s.tstate ≠ .idle) :
    t.txlog = s.txlog ∧ (t.lock = false ∨ t.tstate ≠ .idle) := by
  obtain ⟨m, -, he⟩ | move := step_next_cases h
  · exact ⟨(environmentMove_txlog_kept he :), environmentMove_free_or_started he started⟩
  · exact ⟨(move.txlog_kept started :), move.free_or_started started⟩

/-! ### Runs -/

theorem run_succ_eq_next {k : Nat} {s t : State} (h : Host.Core.run Sys2Proof.core (k + 1) s = .next t) :
    ∃ s', step s = .next s' ∧ Host.Core.run Sys2Proof.core k s' = .next t := by
  cases hs : step s with
  | next s' => exact ⟨s', rfl, (run_succ_of_next hs k).symm.trans h⟩
  | refused r => cases (run_succ_of_refused hs k).symm.trans h
  | fault r =>
    have hc : Sys2Proof.core.step s = .fault r := hs
    simp [Host.Core.run, hc] at h

/-- A run that writes to the channel, from a free lock or from a transaction that has left `Idle`, is first in a state with
a free lock and nothing yet written. -/
theorem run_released_before_txlog {s t : State} (k : Nat) (freeOrStarted : s.lock = false ∨ s.tstate ≠ .idle)
    (h : Host.Core.run Sys2Proof.core k s = .next t) (written : t.txlog ≠ s.txlog) :
    ∃ j m, j < k ∧ Host.Core.run Sys2Proof.core j s = .next m ∧ m.lock = false ∧ m.txlog = s.txlog := by
  induction k generalizing s with
  | zero =>
    cases h
    exact absurd rfl written
  | succ k ih =>
    obtain free | started := freeOrStarted
    · exact ⟨0, s, k.succ_pos, rfl, free, rfl⟩
    · obtain ⟨s', hs, hrun⟩ := run_succ_eq_next h
      obtain ⟨kept, freeOrStarted'⟩ := step_of_started hs started
      obtain ⟨j, m, hj, hm, free, same⟩ := ih freeOrStarted' hrun (kept ▸ written)
      exact ⟨j + 1, m, Nat.succ_lt_succ hj, (run_succ_of_next hs j).trans hm, free, same.trans kept⟩

/-- Settles O51: a sent frame's transaction has left `Idle`. -/
theorem noSecondFrameBeforeRelease : Obligations.NoSecondFrameBeforeRelease :=
  fun k _ _ _ started h written => run_released_before_txlog k (.inr started) h written

end Sys2Proof.Machine

/-! ## The encodings of spec/30_encoding.md

The statements O1, O2, O4, O8, O21, O23 and O24. The other half of `decode_encode` is proved along the decoder: each
field that decodes is the rendering of what it decodes to, so the body is, the frame is (`frameOf_of_unframe`), and hence
its length is that of the instruction's shape (R77). The frames of the builders are those that Safety.lean writes in the
spec's words. -/

namespace Sys2Proof.Machine

/-! ### Decoding what was encoded -/

/-- Settles O1: the address strings that a requester cannot submit decode too, so well-formedness is not used. -/
theorem decodeOfEncodeIsIdentity : Obligations.DecodeOfEncodeIsIdentity := fun i _ => decode_encode i

/-- A table word whose bytes are an encoding decodes to what was encoded. -/
theorem decodeTableWord_of_encode {nbits w : Nat} {i : Instr} (h : codeOfTableWord nbits w = some (encode i)) :
    decodeTableWord nbits w = some i := by
  simp only [decodeTableWord, h, decode_encode]

/-- Settles O4: each word has the bytes of its instruction's encoding, evaluated, and `decode_encode` gives the rest. -/
theorem tableWordsDecode : Obligations.TableWordsDecode :=
  ⟨decodeTableWord_of_encode rfl, decodeTableWord_of_encode rfl, decodeTableWord_of_encode rfl,
    decodeTableWord_of_encode (by decide), decodeTableWord_of_encode (by decide), decodeTableWord_of_encode rfl⟩

/-! ### The ADDR field -/

/-- The field of a unit address is its high byte and then its low byte (R47). -/
theorem addrField_append (hi lo : Byte) : addrField (hi ++ lo) = hexOfBytes [hi, lo] := by
  rw [addrField_eq, BitVec.extractLsb'_append_eq_left, BitVec.extractLsb'_append_eq_right]

/-- The byte-pair reversed field is its low byte and then its high byte (R48). -/
theorem bitAddrField_append (hi lo : Byte) : bitAddrField (hi ++ lo) = hexOfBytes [lo, hi] := by
  rw [bitAddrField_eq, BitVec.extractLsb'_append_eq_left, BitVec.extractLsb'_append_eq_right]

theorem hexOfBytes_eq_flatMap_byteDigits (bytes : List Byte) : hexOfBytes bytes = bytes.flatMap byteDigits :=
  congrArg (bytes.flatMap ·) (funext asciiHex_byte)

/-- The digits of a unit address are those of its two bytes (R73). -/
theorem fourDigits_append (hi lo : Byte) : fourDigits (hi ++ lo) = byteDigits hi ++ byteDigits lo := by
  have h3 : (hi ++ lo).extractLsb' 12 4 = hi.extractLsb' 4 4 := BitVec.extractLsb'_append_eq_of_le (by decide)
  have h2 : (hi ++ lo).extractLsb' 8 4 = hi.extractLsb' 0 4 := BitVec.extractLsb'_append_eq_of_le (by decide)
  have h1 : (hi ++ lo).extractLsb' 4 4 = lo.extractLsb' 4 4 := BitVec.extractLsb'_append_eq_of_add_le (by decide)
  have h0 : (hi ++ lo).extractLsb' 0 4 = lo.extractLsb' 0 4 := BitVec.extractLsb'_append_eq_of_add_le (by decide)
  simp only [byteDigits, ← h3, ← h2, ← h1, ← h0]
  rfl

theorem addrField_eq_fourDigits (u : UnitAddr) : addrField u = fourDigits u := by
  rw [← addr_of_bytes u, addrField_append, hexOfBytes_eq_flatMap_byteDigits, fourDigits_append]
  rfl

theorem bitAddrField_eq_fourDigitsSwapped (u : UnitAddr) : bitAddrField u = fourDigitsSwapped u := by
  have swapped : bitAddrField u = swapPairs (addrField u) := rfl
  rw [swapped, addrField_eq_fourDigits]
  rfl

/-- Four digits hold every unit address, so the rendering is not refused (R111). -/
theorem numberToAsciiHex_unitAddr (u : UnitAddr) (littleEndian : Bool) :
    numberToAsciiHex u.toNat 4 littleEndian = some (asciiHex u.toNat 4 littleEndian) :=
  if_pos ⟨rfl, u.isLt⟩

/-- Settles O8: the two renderings of the number are the two fields. -/
theorem addressFieldDigits : Obligations.AddressFieldDigits := fun u =>
  have big := addrField_eq_fourDigits u
  have reversed := bitAddrField_eq_fourDigitsSwapped u
  ⟨(numberToAsciiHex_unitAddr u false).trans (congrArg some big), big,
    (numberToAsciiHex_unitAddr u true).trans (congrArg some reversed), reversed⟩

/-! ### Encoding what was decoded -/

/-- An ADDR field that decodes is the rendering of its unit address, in the byte order it was decoded in. -/
theorem eq_field_of_decodeAddrField {swapped : Bool} {field : List Byte} {u : UnitAddr}
    (h : decodeAddrField swapped field = some u) : field = if swapped then bitAddrField u else addrField u := by
  unfold decodeAddrField at h
  split at h
  · rename_i b0 b1 hb
    cases h
    rw [← hexOfBytes_of_asciiHexToBytes hb]
    cases swapped with
    | false => exact (addrField_append b0 b1).symm
    | true => exact (bitAddrField_append b1 b0).symm
  · cases h

theorem eq_addrField_of_decodeAddrField {field : List Byte} {u : UnitAddr}
    (h : decodeAddrField false field = some u) :
    field = addrField u :=
  eq_field_of_decodeAddrField h

theorem eq_bitAddrField_of_decodeAddrField {field : List Byte} {u : UnitAddr}
    (h : decodeAddrField true field = some u) :
    field = bitAddrField u :=
  eq_field_of_decodeAddrField h

theorem encode_of_decodeReadTail {u : UnitAddr} {rest : List Byte} {i : Instr} (h : decodeReadTail u rest = .ok i) :
    encode i = .request (frameOf ([fcRead] ++ addrField u ++ rest)) := by
  unfold decodeReadTail at h
  repeat' split at h
  all_goals cases h
  all_goals
    subst rest
    rfl

/-- DATA that decodes is the rendering of its bytes, and LEN stands before it (R69). -/
theorem lenField_append_hexOfBytes {n : Nat} {rest bytes : List Byte} (hlen : rest.take 2 = lenField n)
    (hdata : asciiHexToBytes (rest.drop 2) = some bytes) : lenField n ++ hexOfBytes bytes = rest := by
  rw [← hlen, hexOfBytes_of_asciiHexToBytes hdata, List.take_append_drop]

theorem encode_of_decodeWriteTail {u : UnitAddr} {rest : List Byte} {i : Instr} (h : decodeWriteTail u rest = .ok i) :
    encode i = .request (frameOf ([fcWrite] ++ addrField u ++ rest)) := by
  unfold decodeWriteTail at h
  repeat' split at h
  all_goals cases h
  all_goals
    rename_i hdata hlen
    rw [← lenField_append_hexOfBytes hlen hdata, ← List.append_assoc]
    rfl

/-- A body that decodes is that of the encoding of what it decodes to: along the function codes of R66. -/
theorem encode_of_decodeBody {body : List Byte} {i : Instr} (h : decodeBody body = .ok i) :
    encode i = .request (frameOf body) := by
  unfold decodeBody at h
  split at h
  case h_2 => cases h
  rename_i fc a0 a1 a2 a3 rest
  have body_eq : fc :: a0 :: a1 :: a2 :: a3 :: rest = [fc] ++ [a0, a1, a2, a3] ++ rest := rfl
  rw [body_eq]
  split_ifs at h with read write setOrReset rest_nil set
  · split at h
    · cases h
    · rename_i u hu
      rw [read, eq_addrField_of_decodeAddrField hu]
      exact encode_of_decodeReadTail h
  · split at h
    · cases h
    · rename_i u hu
      rw [write, eq_addrField_of_decodeAddrField hu]
      exact encode_of_decodeWriteTail h
  · split at h <;> cases h
  · split at h <;> cases h
    rename_i u hu
    rw [set, eq_bitAddrField_of_decodeAddrField hu, not_not.mp rest_nil, List.append_nil]
    rfl
  · split at h <;> cases h
    rename_i u hu
    rw [setOrReset.resolve_left set, eq_bitAddrField_of_decodeAddrField hu, not_not.mp rest_nil, List.append_nil]
    rfl

theorem encode_of_decodeRequest {bytes : List Byte} {i : Instr} (h : decodeRequest bytes = .ok i) :
    encode i = .request bytes := by
  unfold decodeRequest at h
  split at h
  · cases h
  · rename_i body hb
    rw [encode_of_decodeBody h, frameOf_of_unframe hb]

/-- The two bytes of a RDRESP that are no operands are fixed (R72). -/
theorem encode_of_decodeResponse {bytes : List Byte} {i : Instr} (h : decodeResponse bytes = .ok i) :
    encode i = .response bytes := by
  unfold decodeResponse at h
  split at h
  case h_1 =>
    cases h
    rfl
  case h_5 => cases h
  all_goals
    repeat' split at h
    all_goals cases h
    rename_i start stop
    obtain rfl := not_not.mp start
    obtain rfl := not_not.mp stop
    rfl

/-- Row by row of the opcode map: only a write keeps its value, and a reserved opcode no operand (R13, R62, R63). -/
theorem encode_decodeCommand (op : Opcode) (addr : List Byte) (wdata : Word) :
    encode (decodeCommand op addr wdata) = .command op (if (expectOf op).isSome then addr else [])
      (if (expectOf op).isSome ∧ op.getLsbD 3 = true then wdata else 0) := by
  obtain ⟨n, hn⟩ := op
  interval_cases n <;> simp [decodeCommand, encode, expectOf]

/-- Settles O2, place by place where code is found. -/
theorem encodeOfDecodeIsIdentity : Obligations.EncodeOfDecodeIsIdentity :=
  ⟨fun _ _ => encode_of_decodeRequest, fun _ _ => encode_of_decodeResponse,
    fun op addr wdata => ⟨decodeCommand op addr wdata, rfl, encode_decodeCommand op addr wdata⟩⟩

/-! ### The lengths of frames and responses -/

/-- The encoding of a request has the length of its shape (R77). -/
theorem length_of_encode_request {i : Instr} {bytes : List Byte} (h : encode i = .request bytes) :
    bytes.length ∈ [9, 11, 13, 15, 19] ∧ wireLength i = some bytes.length := by
  cases i <;> cases h
  case read1 | read2 | read4 => simp [buildRead_length, wireLength]
  case write1 | write2 | write4 => simp [buildWrite_length, wireLength]
  case setBit | resetBit => simp [buildBit_length, wireLength]

/-- The encoding of a response has the length of its shape (R77). -/
theorem length_of_encode_response {i : Instr} {bytes : List Byte} (h : encode i = .response bytes) :
    bytes.length ∈ [1, 6, 8, 12] ∧ wireLength i = some bytes.length := by
  cases i <;> cases h
  case ack | rdresp1 | rdresp2 | rdresp4 => simp [wireLength]

/-- Settles O24: what decodes is an encoding (O2), and encodings have the lengths of the builders. -/
theorem frameLengths : Obligations.FrameLengths := fun u d0 d1 d2 d3 =>
  ⟨fun n _ => buildRead_length u n, buildWrite_length u 1 [d0], buildWrite_length u 2 [d0, d1],
    buildWrite_length u 4 [d0, d1, d2, d3], buildBit_length u,
    fun _ _ h => length_of_encode_request (encode_of_decodeRequest h),
    fun _ _ h => length_of_encode_response (encode_of_decodeResponse h)⟩

/-! ### The request frames in the spec's words -/

/-- The 8-bit accumulation is the sum modulo 256 (R110). -/
theorem byteSum_toNat (range : List Byte) : (byteSum range).toNat = (range.map BitVec.toNat).sum % 256 := by
  have accumulated : ∀ (rest : List Byte) (acc : Byte),
      (rest.foldl (· + ·) acc).toNat = (acc.toNat + (rest.map BitVec.toNat).sum) % 256 := by
    intro rest
    induction rest with
    | nil =>
      intro acc
      exact (Nat.mod_eq_of_lt acc.isLt).symm
    | cons b rest ih =>
      intro acc
      simp only [List.foldl_cons, ih, BitVec.toNat_add, List.map_cons, List.sum_cons]
      omega
  simpa [byteSum] using accumulated range 0#8

theorem checksumAscii_eq_sumDigits (range : List Byte) : checksumAscii range = sumDigits range := by
  have digits : ∀ b : Byte, b.extractLsb' 4 4 = BitVec.ofNat 4 (b.toNat / 16) ∧
      b.extractLsb' 0 4 = BitVec.ofNat 4 (b.toNat % 16) := by decide
  obtain ⟨high, low⟩ := digits (byteSum range)
  rw [checksumAscii, high, low, byteSum_toNat]
  rfl

theorem frameOf_eq_framed (body : List Byte) : frameOf body = framed body := by
  rw [frameOf, checksumAscii_eq_sumDigits]
  rfl

/-- A length of one digit (R74). -/
theorem lenField_of_lt {n : Nat} (h : n < 10) : lenField n = [0x30#8, BitVec.ofNat 8 (0x30 + n)] := by
  revert n
  decide

theorem buildRead_eq_spec (u : UnitAddr) {n : Nat} (h : n < 10) : buildRead u n = specReadFrame u n := by
  rw [buildRead, frameOf_eq_framed, addrField_eq_fourDigits, lenField_of_lt h]
  rfl

theorem buildWrite_eq_spec (u : UnitAddr) {n : Nat} (h : n < 10) (bytes : List Byte) :
    buildWrite u n bytes = specWriteFrame u n bytes := by
  rw [buildWrite, frameOf_eq_framed, addrField_eq_fourDigits, lenField_of_lt h, hexOfBytes_eq_flatMap_byteDigits]
  rfl

theorem buildBit_eq_spec (u : UnitAddr) (set : Bool) : buildBit u set = specBitFrame u set := by
  rw [buildBit, frameOf_eq_framed, bitAddrField_eq_fourDigitsSwapped]
  rfl

/-- Settles O23: each instruction is encoded as its builder's frame, sends that frame, and the frame is the spec's. -/
theorem requestFramesAreWritten : Obligations.RequestFramesAreWritten := by
  intro s u d0 d1 d2 d3
  rw [← buildRead_eq_spec u (n := 1) (by decide), ← buildRead_eq_spec u (n := 2) (by decide),
    ← buildRead_eq_spec u (n := 4) (by decide), ← buildWrite_eq_spec u (n := 1) (by decide),
    ← buildWrite_eq_spec u (n := 2) (by decide), ← buildWrite_eq_spec u (n := 4) (by decide),
    ← buildBit_eq_spec u true, ← buildBit_eq_spec u false]
  simp only [List.forall_mem_cons, List.not_mem_nil, false_imp_iff, implies_true, and_true]
  exact ⟨⟨rfl, rfl⟩, ⟨rfl, rfl⟩, ⟨rfl, rfl⟩, ⟨rfl, rfl⟩, ⟨rfl, rfl⟩, ⟨rfl, rfl⟩, ⟨rfl, rfl⟩, ⟨rfl, rfl⟩⟩

/-! ### The reserved opcodes -/

/-- An opcode that waits for no response is reserved, whatever its operands (R63). -/
theorem exec_of_expectOf_none {op : Opcode} (h : expectOf op = none) (addr : List Byte) (wdata : Word) :
    exec (decodeCommand op addr wdata) = reservedCommand := by
  obtain reserved | ⟨_, _, _, expect, expects, -⟩ := exec_decodeCommand op addr wdata
  · exact reserved
  · cases h.symm.trans expects

/-- A free engine accepts the first waiting command (R142). -/
theorem step_of_free {s : State} {c : Command} {rest : List Command} (hs : s.schedule = []) (free : s.lock = false)
    (first : s.waiting = c :: rest) : step s = .next (s.accept c rest) := by
  have nothing : fetch s = none := by simp [fetch, free]
  rw [step_of_schedule_nil hs, engineStep_of_fetch_none nothing]
  simp [transition, idleStep, free, first]

/-- A latched command whose frame is not built runs (R57). -/
theorem step_of_latched {s : State} (hs : s.schedule = []) (held : s.lock = true) (idle : s.tstate = .idle)
    (unbuilt : s.frameReady = false) : step s = exec (decodeCommand s.cmdOp s.latchedAddr s.cmdWdata) s := by
  have latched : fetch s = some (.command s.cmdOp s.latchedAddr s.cmdWdata) := by simp [fetch, held, idle, unbuilt]
  rw [step_of_schedule_nil hs, engineStep_of_decode_ok latched rfl]

/-- Settles O21: the meaning is the fault completion, and the step after acceptance is the meaning of the latched
opcode. -/
theorem reservedOpcodesEndUnsupported : Obligations.ReservedOpcodesEndUnsupported := by
  refine ⟨fun s => ?_, ?_⟩
  · simp only [List.forall_mem_cons, List.not_mem_nil, false_imp_iff, implies_true, and_true]
    exact ⟨rfl, rfl, rfl, rfl, rfl, rfl⟩
  · intro s c rest hop hs free idle unbuilt first
    have waitsForNothing : ∀ op ∈ [0b0101#4, 0b0110#4, 0b0111#4, 0b1101#4, 0b1110#4, 0b1111#4],
        expectOf op = none := by decide
    have ends : step (s.accept c rest) = .next ((s.accept c rest).raise .unsupportedOperation) := by
      rw [step_of_latched (s := s.accept c rest) hs rfl idle unbuilt]
      exact congrFun (exec_of_expectOf_none (waitsForNothing c.op hop) _ _) _
    exact ⟨_, _, step_of_free hs free first, rfl, rfl, ends, rfl, rfl, rfl, rfl, rfl, rfl, rfl⟩

end Sys2Proof.Machine

/-! ## The Address Resolver

The statements O11 to O15. A digit string parses as its value exactly when every character is a digit of the base and
the value fits: the check after every digit (R93) asks no more than one check at the end, because a value only grows as
digits follow. Resolving is a formula and then one range check (R95, R107), so each statement about it is read off the formulas
area by area. -/

namespace Sys2Proof.Machine

/-! ### Parsing -/

/-- The code of the letter that selects an area (R91). -/
def areaLetter : Area → Nat
  | .D => 0x44
  | .M => 0x4D
  | .X => 0x58
  | .Y => 0x59
  | .S => 0x53
  | .T => 0x54

theorem areaOf_eq_some {c : Byte} {a : Area} : areaOf c = some a ↔ c.toNat = areaLetter a := by
  constructor
  · intro h
    unfold areaOf at h
    repeat' split at h
    all_goals cases h
    all_goals subst c; rfl
  · intro h
    have letter : c = BitVec.ofNat 8 (areaLetter a) := by rw [← h, BitVec.ofNat_toNat, BitVec.setWidth_eq]
    subst c
    cases a <;> rfl

/-- The character is a digit of the base (R93). -/
def IsDigit (base : Nat) (c : Byte) : Prop := 0x30 ≤ c.toNat ∧ c.toNat < 0x30 + base

/-- The value that digits give when they follow digits of value `acc`, most significant first (R93). -/
def digitsValue (base acc : Nat) (digits : List Byte) : Nat :=
  digits.foldl (fun v c => v * base + (c.toNat - 0x30)) acc

@[simp] theorem digitsValue_nil (base acc : Nat) : digitsValue base acc [] = acc := rfl

@[simp] theorem digitsValue_cons (base acc : Nat) (c : Byte) (rest : List Byte) :
    digitsValue base acc (c :: rest) = digitsValue base (acc * base + (c.toNat - 0x30)) rest := by
  rw [digitsValue, List.foldl_cons, digitsValue]

/-- A value only grows as digits follow. -/
theorem le_digitsValue {base : Nat} (pos : 0 < base) (acc : Nat) (digits : List Byte) :
    acc ≤ digitsValue base acc digits := by
  induction digits generalizing acc with
  | nil => exact Nat.le_refl acc
  | cons c rest ih =>
    calc acc ≤ acc * base := Nat.le_mul_of_pos_right acc pos
      _ ≤ acc * base + (c.toNat - 0x30) := Nat.le_add_right _ _
      _ ≤ digitsValue base (acc * base + (c.toNat - 0x30)) rest := ih _
      _ = digitsValue base acc (c :: rest) := (digitsValue_cons base acc c rest).symm

theorem digitVal_eq_some_iff_isDigit {base : Nat} {c : Byte} {d : Nat} (small : base ≤ 10) :
    digitVal base c = some d ↔ IsDigit base c ∧ d = c.toNat - 0x30 := by
  rw [digitVal_eq_some small, IsDigit, and_assoc]

theorem digitVal_of_isDigit {base : Nat} {c : Byte} (small : base ≤ 10) (h : IsDigit base c) :
    digitVal base c = some (c.toNat - 0x30) :=
  (digitVal_eq_some_iff_isDigit small).mpr ⟨h, rfl⟩

theorem digitVal_of_not_isDigit {base : Nat} {c : Byte} (small : base ≤ 10) (h : ¬ IsDigit base c) :
    digitVal base c = none := by
  rw [Option.eq_none_iff_forall_ne_some]
  exact fun d value => h ((digitVal_eq_some_iff_isDigit small).mp value).1

/-- The digit loop gives the value of the whole string, if all its characters are digits and the value fits. -/
theorem parseDigits_eq_some {base acc n : Nat} {digits : List Byte} (pos : 0 < base) (small : base ≤ 10)
    (fits : acc ≤ Config.offsetMax) :
    parseDigits base acc digits = some n ↔
      (∀ c ∈ digits, IsDigit base c) ∧ digitsValue base acc digits = n ∧ n ≤ Config.offsetMax := by
  induction digits generalizing acc with
  | nil =>
    simp only [parseDigits, Option.some.injEq, List.not_mem_nil, false_imp_iff, implies_true, true_and,
      digitsValue_nil]
    exact ⟨fun h => ⟨h, h ▸ fits⟩, And.left⟩
  | cons c rest ih =>
    by_cases digit : IsDigit base c
    · have grows := le_digitsValue pos (acc * base + (c.toNat - 0x30)) rest
      simp only [parseDigits, digitVal_of_isDigit small digit, List.forall_mem_cons, digit, true_and,
        digitsValue_cons]
      split
      next exceeds => simp only [reduceCtorEq, false_iff]; omega
      next within => exact ih (by omega)
    · simp [parseDigits, digitVal_of_not_isDigit small digit, digit]

/-- The digit loop of an area, from its start (R92, R93). -/
theorem parseDigits_areaBase_eq_some {a : Area} {n : Nat} {digits : List Byte} :
    parseDigits (areaBase a) 0 digits = some n ↔
      (∀ c ∈ digits, IsDigit (areaBase a) c) ∧ digitsValue (areaBase a) 0 digits = n ∧ n ≤ Config.offsetMax := by
  have base := areaBase_eq a
  exact parseDigits_eq_some (by omega) (by omega) (Nat.zero_le _)

/-- What it takes for a letter and the characters after it to parse (R90). -/
theorem parseAddress_cons_eq_ok {letter : Byte} {digits : List Byte} {a : Area} {o : UnitAddr} :
    parseAddress (letter :: digits) = .ok (a, o) ↔
      areaOf letter = some a ∧ digits ≠ [] ∧
        ∃ n, parseDigits (areaBase a) 0 digits = some n ∧ BitVec.ofNat 16 n = o := by
  cases harea : areaOf letter with
  | none => simp [parseAddress, harea]
  | some area =>
    by_cases empty : digits = []
    · simp [parseAddress, harea, empty]
    · cases value : parseDigits (areaBase area) 0 digits with
      | none =>
        simp only [parseAddress, harea, value, if_neg empty, reduceCtorEq, Option.some.injEq, false_iff, not_and,
          not_exists]
        rintro rfl - n parsed
        cases value.symm.trans parsed
      | some n =>
        simp only [parseAddress, harea, value, if_neg empty, Except.ok.injEq, Prod.mk.injEq, Option.some.injEq]
        constructor
        · rintro ⟨rfl, ho⟩
          exact ⟨rfl, empty, n, value, ho⟩
        · rintro ⟨rfl, -, m, parsed, ho⟩
          cases value.symm.trans parsed
          exact ⟨rfl, ho⟩

/-- An offset that fits is kept by its 16 bits. -/
theorem ofNat_eq_iff_of_le_offsetMax {n : Nat} {o : UnitAddr} (h : n ≤ Config.offsetMax) :
    BitVec.ofNat 16 n = o ↔ n = o.toNat := by
  have bound : n < 2 ^ 16 := Nat.lt_succ_of_le h
  rw [← BitVec.toNat_inj, BitVec.toNat_ofNat, Nat.mod_eq_of_lt bound]

/-- Exactly the addresses that parse (R91 to R93). -/
theorem parseAddress_cons_eq_ok_iff_value {letter : Byte} {digits : List Byte} {a : Area} {o : UnitAddr} :
    parseAddress (letter :: digits) = .ok (a, o) ↔
      letter.toNat = areaLetter a ∧ digits ≠ [] ∧ (∀ c ∈ digits, IsDigit (areaBase a) c) ∧
        digitsValue (areaBase a) 0 digits = o.toNat := by
  rw [parseAddress_cons_eq_ok, areaOf_eq_some]
  refine and_congr_right fun _ => and_congr_right fun _ => ?_
  simp only [parseDigits_areaBase_eq_some]
  constructor
  · rintro ⟨n, ⟨areDigits, value, fits⟩, ho⟩
    exact ⟨areDigits, value.trans ((ofNat_eq_iff_of_le_offsetMax fits).mp ho)⟩
  · rintro ⟨areDigits, value⟩
    exact ⟨o.toNat, ⟨areDigits, value, Nat.le_of_lt_succ o.isLt⟩, by rw [BitVec.ofNat_toNat, BitVec.setWidth_eq]⟩

/-- Settles O11: the spec's numbers are those of `areaLetter` and `areaBase`, area by area. -/
theorem parseAddressAcceptsExactly : Obligations.ParseAddressAcceptsExactly := by
  refine ⟨fun addr a o => ?_, fun _ _ => parseAddress_error⟩
  cases addr with
  | nil => simp [parseAddress]
  | cons letter digits =>
    rw [parseAddress_cons_eq_ok_iff_value]
    constructor
    · intro accepted
      refine ⟨letter, digits, rfl, ?_⟩
      cases a <;> exact accepted
    · rintro ⟨_, _, same, accepted⟩
      cases same
      cases a <;> exact accepted

/-- A leading zero leaves the digit loop where it starts (R93). -/
theorem parseDigits_zero_cons {base : Nat} (pos : 0 < base) (digits : List Byte) :
    parseDigits base 0 (0x30#8 :: digits) = parseDigits base 0 digits := by
  have zero : digitVal base 0x30#8 = some 0 := by simp [digitVal, pos]
  simp [parseDigits, zero]

theorem parseDigits_zeros_append {base : Nat} (pos : 0 < base) {zeros : List Byte} (hz : ∀ z ∈ zeros, z = 0x30#8)
    (digits : List Byte) : parseDigits base 0 (zeros ++ digits) = parseDigits base 0 digits := by
  induction zeros with
  | nil => rfl
  | cons z zeros ih =>
    obtain ⟨rfl, rest⟩ := List.forall_mem_cons.mp hz
    rw [List.cons_append, parseDigits_zero_cons pos, ih rest]

/-- Settles O12: the area depends on the letter alone, and its digit loop does not see the zeros. -/
theorem leadingZerosHaveNoEffect : Obligations.LeadingZerosHaveNoEffect := by
  intro letter zeros digits nonempty hz
  have sameDigits (a : Area) : parseDigits (areaBase a) 0 (zeros ++ digits) = parseDigits (areaBase a) 0 digits := by
    have base := areaBase_eq a
    exact parseDigits_zeros_append (by omega) hz digits
  simp only [parseAddress, sameDigits, List.append_eq_nil_iff, nonempty, and_false]

/-! ### Resolving a byte operation -/

/-- Only area D leaves the 16 bits, from its offset 30720 (R107). -/
theorem byteFormula_overflows {a : Area} {o : UnitAddr} :
    0xFFFF < byteFormula a o.toNat ↔ a = .D ∧ 30720 ≤ o.toNat := by
  have bound := o.isLt
  cases a <;> simp only [byteFormula, reduceCtorEq, true_and, false_and, iff_false] <;> omega

/-- Settles O13: the formula of the area, and the range check that only D can fail. -/
theorem byteOperationAddresses : Obligations.ByteOperationAddresses := by
  intro st a o
  constructor
  · intro u
    have fits : byteFormula a o.toNat ≤ 0xFFFF ↔ ¬ (a = .D ∧ 30720 ≤ o.toNat) := by
      rw [← byteFormula_overflows, Nat.not_lt]
    rw [resolve_byte, checkRange_eq_ok, fits]
    cases a <;> simp [byteFormula]
  · intro e
    rw [resolve_byte, checkRange_eq_error, byteFormula_overflows, and_assoc]

/-! ### Resolving a bit operation -/

theorem resolve_bit_of_none {st : Straps} {a : Area} {o : UnitAddr} (h : bitFormula st a o.toNat = none) :
    resolve st a o false = .error .unsupportedOperation := by
  simp [resolve, h]

theorem resolve_bit_of_some {st : Straps} {a : Area} {o : UnitAddr} {n : Nat}
    (h : bitFormula st a o.toNat = some n) : resolve st a o false = checkRange n := by
  simp [resolve, h]

theorem resolve_bit_eq_ok {st : Straps} {a : Area} {o u : UnitAddr} :
    resolve st a o false = .ok u ↔ ∃ n, bitFormula st a o.toNat = some n ∧ n ≤ 0xFFFF ∧ u.toNat = n := by
  cases h : bitFormula st a o.toNat with
  | none => simp [resolve_bit_of_none h]
  | some n => simp only [resolve_bit_of_some h, checkRange_eq_ok, Option.some.injEq, exists_eq_left']

/-- Unsupported is exactly: the area has no formula (R105, R106). -/
theorem resolve_bit_unsupported {st : Straps} {a : Area} {o : UnitAddr} :
    resolve st a o false = .error .unsupportedOperation ↔ bitFormula st a o.toNat = none := by
  cases h : bitFormula st a o.toNat with
  | none => simp [resolve_bit_of_none h]
  | some n => simp [resolve_bit_of_some h, checkRange_eq_error]

/-- Invalid is exactly: the formula leaves the 16 bits (R107). -/
theorem resolve_bit_invalid {st : Straps} {a : Area} {o : UnitAddr} :
    resolve st a o false = .error .invalidAddress ↔ ∃ n, bitFormula st a o.toNat = some n ∧ 0xFFFF < n := by
  cases h : bitFormula st a o.toNat with
  | none => simp [resolve_bit_of_none h]
  | some n => simp [resolve_bit_of_some h, checkRange_eq_error]

/-- The bit-operation formula of area M (R102). -/
def relayUnit (offset : Nat) : Nat := if 8000 ≤ offset then offset + 0x0F00 else offset + 0x0800

theorem bitFormula_M (st : Straps) (n : Nat) : bitFormula st .M n = some (relayUnit n) := rfl

/-- It leaves the 16 bits from offset 61696 (R107). -/
theorem lt_relayUnit_iff {n : Nat} : 0xFFFF < relayUnit n ↔ 61696 ≤ n := by
  unfold relayUnit
  split <;> omega

/-- The areas without a bit formula, for every strap (R105, R106). -/
theorem bitFormula_eq_none {st : Straps} {a : Area} {n : Nat} :
    bitFormula st a n = none ↔ a = .X ∨ a = .D ∨ (a = .T ∧ st.tBitEn = false) := by
  cases a <;> simp [bitFormula]

/-- The two bases of area Y (R104). -/
theorem yBitBase_cases (st : Straps) :
    (st.yBase0400 = false ∧ yBitBase st = 0x0500) ∨ (st.yBase0400 = true ∧ yBitBase st = 0x0400) := by
  cases base : st.yBase0400 <;> simp [yBitBase, base]

/-- Settles O14: the formula of the area under its strap; the bounds are where it leaves the 16 bits. -/
theorem bitOperationAddresses : Obligations.BitOperationAddresses := by
  intro st a o
  have bound := o.isLt
  refine ⟨fun u => ?_, resolve_bit_unsupported.trans bitFormula_eq_none, ?_⟩
  · rw [resolve_bit_eq_ok]
    cases a with
    | D | X => simp [bitFormula]
    | M =>
      simp only [bitFormula_M, relayUnit, Option.some.injEq, exists_eq_left', true_and, reduceCtorEq, false_and,
        or_false]
      split <;> omega
    | S =>
      simp only [bitFormula, Option.some.injEq, exists_eq_left', true_and, reduceCtorEq, false_and, or_false,
        false_or, ← BitVec.toNat_inj]
      omega
    | Y =>
      simp only [bitFormula, Option.some.injEq, exists_eq_left', true_and, reduceCtorEq, false_and, or_false, false_or]
      obtain ⟨base, hy⟩ | ⟨base, hy⟩ := yBitBase_cases st
      · simp only [base, hy, reduceCtorEq, true_and, false_and, or_false]
        omega
      · simp only [base, hy, reduceCtorEq, true_and, false_and, false_or]
        omega
    | T => cases enabled : st.tBitEn with
      | false => simp [bitFormula, enabled]
      | true =>
        simp only [bitFormula, enabled, if_true, Option.some.injEq, exists_eq_left', true_and, reduceCtorEq, false_and,
          false_or]
        omega
  · rw [resolve_bit_invalid]
    cases a with
    | D | X => simp [bitFormula]
    | M => simp [bitFormula_M, lt_relayUnit_iff]
    | S =>
      have within : ¬ 0xFFFF < o.toNat := by omega
      simpa [bitFormula] using within
    | Y =>
      simp only [bitFormula, Option.some.injEq, exists_eq_left', true_and, reduceCtorEq, false_and, or_false, false_or]
      obtain ⟨base, hy⟩ | ⟨base, hy⟩ := yBitBase_cases st
      · simp only [base, hy, reduceCtorEq, true_and, false_and, or_false]
        omega
      · simp only [base, hy, reduceCtorEq, true_and, false_and, false_or]
        omega
    | T => cases enabled : st.tBitEn with
      | false => simp [bitFormula, enabled]
      | true =>
        simp only [bitFormula, enabled, if_true, Option.some.injEq, exists_eq_left', true_and, reduceCtorEq, false_and,
          false_or]
        omega

/-! ### Bit operations on area M -/

theorem resolve_M_bit (st : Straps) (o : UnitAddr) : resolve st .M o false = checkRange (relayUnit o.toNat) := rfl

/-- The special range starts above the end of the ordinary one, so the order of the offsets is kept. -/
theorem relayUnit_strictMono : StrictMono relayUnit := by
  intro m n less
  unfold relayUnit
  split <;> split <;> omega

theorem relayUnit_gap (n : Nat) : relayUnit n < 0x2740 ∨ 0x2E40 ≤ relayUnit n := by
  unfold relayUnit
  split <;> omega

/-- Settles O15: the formula keeps the order of the offsets, hence is injective. -/
theorem mRelayBitAddressesAreInjective : Obligations.MRelayBitAddressesAreInjective := by
  intro st o
  constructor
  · intro large
    exact checkRange_eq_error.mpr ⟨lt_relayUnit_iff.mpr large, rfl⟩
  · intro small
    have fits : relayUnit o.toNat ≤ 0xFFFF := Nat.not_lt.mp (mt lt_relayUnit_iff.mp (Nat.not_le.mpr small))
    have value : (BitVec.ofNat 16 (relayUnit o.toNat)).toNat = relayUnit o.toNat :=
      Nat.mod_eq_of_lt (Nat.lt_succ_of_le fits)
    refine ⟨BitVec.ofNat 16 (relayUnit o.toNat), checkRange_eq_ok.mpr ⟨fits, value⟩, value, ?_, fun o' same => ?_⟩
    · rw [value]
      exact relayUnit_gap _
    · rw [resolve_M_bit, checkRange_eq_ok, value] at same
      exact BitVec.toNat_inj.mp (relayUnit_strictMono.injective same.2.symm)

end Sys2Proof.Machine

/-! ## The Ascii Codec

The statements O6, O7, O9 and O10. Both renderings of a number write its bytes with two characters each
(`asciiHex_even`), and `asciiHexToBytes` takes apart exactly what `hexOfBytes` writes (`asciiHexToBytes_eq_some`), so
each statement about text becomes one about the bytes of a number. -/

namespace Sys2Proof.Machine

/-! ### Decoding hexadecimal text -/

/-- The sixteen legal characters and their values, range by range (R114). -/
theorem hexVal_eq_some {c : Byte} {d : BitVec 4} : hexVal c = some d ↔
    (0x30 ≤ c.toNat ∧ c.toNat ≤ 0x39 ∧ d.toNat = c.toNat - 0x30) ∨
    (0x41 ≤ c.toNat ∧ c.toNat ≤ 0x46 ∧ d.toNat = c.toNat - 0x41 + 10) := by
  unfold hexVal
  split_ifs with decimal letter
  · rw [Option.some.injEq, ← BitVec.toNat_inj, BitVec.toNat_ofNat]
    omega
  · rw [Option.some.injEq, ← BitVec.toNat_inj, BitVec.toNat_ofNat]
    omega
  · simp only [false_iff]
    omega

/-- A pair of characters fails where one of them is no digit, or where the text after it fails (R113). -/
theorem asciiHexToBytes_pair_eq_none {hi lo : Byte} {rest : List Byte} :
    asciiHexToBytes (hi :: lo :: rest) = none ↔
      hexVal hi = none ∨ hexVal lo = none ∨ asciiHexToBytes rest = none := by
  rw [asciiHexToBytes]
  split
  next high low tail => simp [high, low, tail]
  next fails =>
    refine ⟨fun _ => ?_, fun _ => rfl⟩
    by_contra! allSome
    simp only [Option.ne_none_iff_exists'] at allSome
    obtain ⟨⟨h, high⟩, ⟨l, low⟩, ⟨out, tail⟩⟩ := allSome
    exact fails h l out high low tail

/-- Text is refused for an odd length or for a character that is no digit, and for nothing else (R113). -/
theorem asciiHexToBytes_eq_none : ∀ {text : List Byte},
    asciiHexToBytes text = none ↔ text.length % 2 = 1 ∨ ∃ c ∈ text, hexVal c = none
  | [] => by simp [asciiHexToBytes]
  | [_] => by simp [asciiHexToBytes]
  | hi :: lo :: rest => by
    have parity : (hi :: lo :: rest).length % 2 = rest.length % 2 := Nat.add_mod_right rest.length 2
    rw [asciiHexToBytes_pair_eq_none, asciiHexToBytes_eq_none, parity]
    simp only [List.exists_mem_cons_iff]
    tauto

/-- The texts that decode are the renderings of the bytes they decode to. -/
theorem asciiHexToBytes_eq_some {text bytes : List Byte} :
    asciiHexToBytes text = some bytes ↔ hexOfBytes bytes = text :=
  ⟨hexOfBytes_of_asciiHexToBytes, fun h => h ▸ asciiHexToBytes_hexOfBytes bytes⟩

/-- The two characters of the byte in place `j` (R46). -/
theorem hexOfBytes_getElem? {bytes : List Byte} {j : Nat} (h : j < bytes.length) :
    (hexOfBytes bytes)[2 * j]? = some (hexChar (bytes[j].extractLsb' 4 4)) ∧
      (hexOfBytes bytes)[2 * j + 1]? = some (hexChar (bytes[j].extractLsb' 0 4)) := by
  induction bytes generalizing j with
  | nil => cases h
  | cons b bs ih =>
    rw [hexOfBytes_cons]
    cases j with
    | zero => exact ⟨rfl, rfl⟩
    | succ j => exact ih (Nat.lt_of_succ_lt_succ h)

theorem byte_toNat_of_digits (b : Byte) :
    b.toNat = (b.extractLsb' 4 4).toNat * 16 + (b.extractLsb' 0 4).toNat := by
  revert b; decide

/-- Settles O10: the bytes of an accepted text are read off its rendering. -/
theorem hexDecodingAcceptsExactly : Obligations.HexDecodingAcceptsExactly := by
  refine ⟨fun _ _ => hexVal_eq_some, fun _ => asciiHexToBytes_eq_none, fun text out decoded => ?_⟩
  obtain rfl := asciiHexToBytes_eq_some.mp decoded
  refine ⟨by simp, fun j h => ?_⟩
  obtain ⟨high, low⟩ := hexOfBytes_getElem? h
  exact ⟨out[j].extractLsb' 4 4, out[j].extractLsb' 0 4, by rw [high, Option.bind_some, hexVal_hexChar],
    by rw [low, Option.bind_some, hexVal_hexChar], byte_toNat_of_digits _⟩

/-! ### The checksum -/

theorem hexOfBytes_injective : Function.Injective hexOfBytes := fun xs ys same =>
  Option.some.inj <| by rw [← asciiHexToBytes_hexOfBytes xs, same, asciiHexToBytes_hexOfBytes]

/-- The two characters tell the 256 sums apart (R118). -/
theorem checksumAscii_eq_iff {xs ys : List Byte} :
    checksumAscii xs = checksumAscii ys ↔
      (xs.map BitVec.toNat).sum % 256 = (ys.map BitVec.toNat).sum % 256 := by
  have rendered (range : List Byte) : checksumAscii range = hexOfBytes [byteSum range] := by
    rw [hexOfBytes_cons, hexOfBytes_nil, checksumAscii]
  rw [rendered, rendered, hexOfBytes_injective.eq_iff, List.singleton_inj, ← BitVec.toNat_inj, byteSum_toNat,
    byteSum_toNat]

/-- Settles O7: a permutation keeps the sum. -/
theorem checksumIsTheSumModulo256 : Obligations.ChecksumIsTheSumModulo256 :=
  ⟨fun _ _ => checksumAscii_eq_iff,
    fun _ _ perm => checksumAscii_eq_iff.mpr (by rw [(perm.map BitVec.toNat).sum_eq])⟩

/-! ### The bytes of a number -/

/-- The `count` low bytes of a number, least significant first. -/
def lowBytes (value count : Nat) : List Byte :=
  (List.range count).map fun i => BitVec.ofNat 8 (value / 256 ^ i)

@[simp] theorem lowBytes_length (value count : Nat) : (lowBytes value count).length = count := by simp [lowBytes]

theorem lowBytes_succ (value count : Nat) :
    lowBytes value (count + 1) = lowBytes value count ++ [BitVec.ofNat 8 (value / 256 ^ count)] := by
  simp [lowBytes, List.range_succ]

/-- The bytes of a number in the order of a rendering: least significant first for the little-endian one. -/
def orderedBytes (littleEndian : Bool) (value count : Nat) : List Byte :=
  if littleEndian then lowBytes value count else (lowBytes value count).reverse

@[simp] theorem orderedBytes_length (littleEndian : Bool) (value count : Nat) :
    (orderedBytes littleEndian value count).length = count := by
  cases littleEndian <;> simp [orderedBytes]

/-- Place by place, the bytes that R117 lists. -/
theorem orderedBytes_eq_map (littleEndian : Bool) (value count : Nat) :
    orderedBytes littleEndian value count = (List.range count).map fun j =>
      BitVec.ofNat 8 (value / 256 ^ (if littleEndian then j else count - 1 - j)) := by
  cases littleEndian with
  | true => rfl
  | false => apply List.ext_getElem <;> simp [orderedBytes, lowBytes]

/-! ### Rendering a number -/

theorem hexDigits_succ (value count : Nat) :
    hexDigits value (count + 1) = hexChar (BitVec.ofNat 4 (value / 16 ^ count)) :: hexDigits value count := by
  simp [hexDigits, List.range_succ_eq_map, Function.comp_def, Nat.sub_sub, Nat.add_comm]

/-- The two digits of the byte of weight 256^`place` (R46). -/
theorem digits_of_byte (value place : Nat) :
    (BitVec.ofNat 8 (value / 256 ^ place)).extractLsb' 4 4 = BitVec.ofNat 4 (value / 16 ^ (2 * place + 1)) ∧
      (BitVec.ofNat 8 (value / 256 ^ place)).extractLsb' 0 4 = BitVec.ofNat 4 (value / 16 ^ (2 * place)) := by
  have weight : 16 ^ (2 * place) = 256 ^ place := pow_mul 16 2 place
  rw [pow_succ, weight, ← Nat.div_div_eq_div_mul]
  constructor
  · apply BitVec.eq_of_toNat_eq
    simp [Nat.shiftRight_eq_div_pow]
    omega
  · apply BitVec.eq_of_toNat_eq
    simp

/-- An even number of digits is two characters for each byte, most significant byte first. -/
theorem hexDigits_even (value count : Nat) :
    hexDigits value (2 * count) = hexOfBytes (lowBytes value count).reverse := by
  induction count with
  | zero => rfl
  | succ count ih =>
    obtain ⟨high, low⟩ := digits_of_byte value count
    rw [lowBytes_succ, List.reverse_append, List.reverse_singleton, List.singleton_append, hexOfBytes_cons, high, low,
      ← ih]
    exact (hexDigits_succ value (2 * count + 1)).trans (congrArg _ (hexDigits_succ value (2 * count)))

theorem hexOfBytes_append (xs ys : List Byte) : hexOfBytes (xs ++ ys) = hexOfBytes xs ++ hexOfBytes ys :=
  List.flatMap_append

/-- Reversing the order of the character pairs reverses that of the bytes (R112). -/
theorem swapPairs_hexOfBytes (bytes : List Byte) : swapPairs (hexOfBytes bytes) = hexOfBytes bytes.reverse := by
  induction bytes with
  | nil => rfl
  | cons b bs ih => rw [hexOfBytes_cons, swapPairs, ih, List.reverse_cons, hexOfBytes_append, hexOfBytes_cons,
      hexOfBytes_nil]

/-- Both renderings are the bytes of the number in their order (R111). -/
theorem asciiHex_even (value count : Nat) (littleEndian : Bool) :
    asciiHex value (2 * count) littleEndian = hexOfBytes (orderedBytes littleEndian value count) := by
  cases littleEndian with
  | false => exact hexDigits_even value count
  | true =>
    calc swapPairs (hexDigits value (2 * count))
      _ = hexOfBytes (lowBytes value count).reverse.reverse := by rw [hexDigits_even, swapPairs_hexOfBytes]
      _ = hexOfBytes (lowBytes value count) := by rw [List.reverse_reverse]

/-- Inside the domain of R111 nothing is refused. -/
theorem numberToAsciiHex_even {value count : Nat} (fits : value < 16 ^ (2 * count)) (littleEndian : Bool) :
    numberToAsciiHex value (2 * count) littleEndian = some (hexOfBytes (orderedBytes littleEndian value count)) := by
  rw [numberToAsciiHex, if_pos ⟨Nat.mul_mod_right 2 count, fits⟩, asciiHex_even]

/-- Settles O6: an even digit count renders bytes, which decode to themselves. -/
theorem renderedNumberDecodesToItsBytes : Obligations.RenderedNumberDecodesToItsBytes := by
  intro v n le even fits
  obtain ⟨count, rfl⟩ := Nat.dvd_of_mod_eq_zero even
  refine ⟨_, numberToAsciiHex_even fits le, by rw [hexOfBytes_length, orderedBytes_length], ?_⟩
  rw [asciiHexToBytes_hexOfBytes, orderedBytes_eq_map, Nat.mul_div_cancel_left count Nat.two_pos]

/-! ### The value of bytes -/

theorem bytesToNat_concat (bytes : List Byte) (b : Byte) :
    bytesToNat (bytes ++ [b]) = bytesToNat bytes + b.toNat * 256 ^ bytes.length := by
  induction bytes with
  | nil => simp [bytesToNat]
  | cons c cs ih =>
    rw [List.cons_append, bytesToNat, bytesToNat, ih, List.length_cons]
    ring

theorem bytesToNat_lt (bytes : List Byte) : bytesToNat bytes < 256 ^ bytes.length := by
  induction bytes with
  | nil => exact Nat.one_pos
  | cons b bs ih =>
    have small : b.toNat < 256 := b.isLt
    rw [bytesToNat, List.length_cons, pow_succ]
    omega

/-- The weighted sum of R116 is the number read from its low end. -/
theorem bytesToNat_eq_sum (bytes : List Byte) :
    bytesToNat bytes = (bytes.zipIdx.map fun p => p.1.toNat * 256 ^ p.2).sum := by
  induction bytes using List.reverseRecOn with
  | nil => rfl
  | append_singleton bytes b ih => simp [bytesToNat_concat, List.zipIdx_append, ih]

theorem wireValue_eq_bytesToNat (lsbFirst : Bool) (bytes : List Byte) :
    wireValue lsbFirst bytes = bytesToNat (if lsbFirst then bytes else bytes.reverse) :=
  (bytesToNat_eq_sum _).symm

/-- Up to four bytes fit the 32 bits of a value (R116). -/
theorem bytesToValue_toNat (lsbFirst : Bool) {bytes : List Byte} (short : bytes.length ≤ 4) :
    (bytesToValue lsbFirst bytes).toNat = wireValue lsbFirst bytes := by
  have ordered_length : (if lsbFirst then bytes else bytes.reverse).length = bytes.length := by
    cases lsbFirst <;> simp
  rw [wireValue_eq_bytesToNat, bytesToValue, BitVec.toNat_ofNat]
  apply Nat.mod_eq_of_lt
  calc bytesToNat (if lsbFirst then bytes else bytes.reverse)
    _ < 256 ^ (if lsbFirst then bytes else bytes.reverse).length := bytesToNat_lt _
    _ = 256 ^ bytes.length := by rw [ordered_length]
    _ ≤ 256 ^ 4 := Nat.pow_le_pow_right (by decide) short
    _ = 2 ^ 32 := rfl

/-- The low bytes of a number are its value modulo their weight. -/
theorem bytesToNat_lowBytes (value count : Nat) : bytesToNat (lowBytes value count) = value % 256 ^ count := by
  induction count with
  | zero => exact (Nat.mod_one value).symm
  | succ count ih =>
    calc bytesToNat (lowBytes value (count + 1))
      _ = value % 256 ^ count + value / 256 ^ count % 256 * 256 ^ count := by
        rw [lowBytes_succ, bytesToNat_concat, ih, lowBytes_length, BitVec.toNat_ofNat]
      _ = value % 256 ^ (count + 1) := by rw [Nat.mul_comm, ← Nat.mod_pow_succ]

/-- The bytes of a number in either order have its value, when they hold it. -/
theorem wireValue_orderedBytes (lsbFirst : Bool) {value count : Nat} (fits : value < 256 ^ count) :
    wireValue lsbFirst (orderedBytes lsbFirst value count) = value := by
  have recovered : (if lsbFirst then orderedBytes lsbFirst value count
      else (orderedBytes lsbFirst value count).reverse) = lowBytes value count := by
    cases lsbFirst <;> simp [orderedBytes]
  rw [wireValue_eq_bytesToNat, recovered, bytesToNat_lowBytes, Nat.mod_eq_of_lt fits]

/-! ### Rendering a value -/

/-- A value goes on the wire as the bytes of its number (R115). -/
theorem wireBytes_eq_orderedBytes (lsbFirst : Bool) (value : Word) (width : Config.ValueWidth) :
    wireBytes lsbFirst value width = orderedBytes lsbFirst value.toNat width.bytes := by
  have byte (i : Nat) : value.extractLsb' (8 * i) 8 = BitVec.ofNat 8 (value.toNat / 256 ^ i) := by
    rw [BitVec.extractLsb', Nat.shiftRight_eq_div_pow, pow_mul]
    rfl
  simp only [wireBytes, byte, orderedBytes, lowBytes]

theorem exists_width_of_mem {n : Nat} (h : n ∈ [1, 2, 4]) : ∃ width : Config.ValueWidth, width.bytes = n := by
  simp only [List.mem_cons, List.not_mem_nil, or_false] at h
  obtain rfl | rfl | rfl := h
  exacts [⟨.one, rfl⟩, ⟨.two, rfl⟩, ⟨.four, rfl⟩]

/-- Settles O9: a value is rendered as the bytes of its number, and these give its number back. -/
theorem valueRoundTrip : Obligations.ValueRoundTrip := by
  refine ⟨fun lsb bytes mem => ?_, fun lsb n v mem fits => ?_, fun lsb n v noWidth => ?_⟩
  · obtain ⟨width, length⟩ := exists_width_of_mem mem
    exact bytesToValue_toNat lsb (length ▸ bytes_le_four width)
  · obtain ⟨width, rfl⟩ := exists_width_of_mem mem
    have digitsFit : v.toNat < 16 ^ (2 * width.bytes) := by rwa [pow_mul]
    refine ⟨_, valueToAsciiHex_bytes lsb v width, by rw [hexOfBytes_length, wireBytes_length], ?_, ?_⟩
    · rw [numberToAsciiHex_even digitsFit, wireBytes_eq_orderedBytes]
    · rw [asciiHexToBytes_hexOfBytes, Option.map_some, Option.some.injEq, ← BitVec.toNat_inj,
        bytesToValue_toNat lsb ((wireBytes_length lsb v width).trans_le (bytes_le_four width)),
        wireBytes_eq_orderedBytes, wireValue_orderedBytes lsb fits]
  · rw [valueToAsciiHex, ofBytes_eq_none noWidth, Option.map_none]

end Sys2Proof.Machine

/-! ## The Transaction Engine

The statements O28, O29, O31 to O34, O38, O44, O47 and O50. First what the engine's step is in each state of a
transaction, said once; the statements about a schedule of one or more engine steps follow it from state to state. Then
what a completing step makes of the results (`CompletesTo`), which O44 and O47 share. -/

namespace Sys2Proof.Machine

/-! ### The transitions that run no instruction -/

theorem engineStep_of_sent {s : State} (held : s.lock = true) (sent : s.tstate = .sent) :
    engineStep s = .next s.recordDeadline := by
  have nothing : fetch s = none := by simp [fetch, held, sent]
  rw [engineStep_of_fetch_none nothing]
  simp [transition, held, sent]

theorem engineStep_of_awaiting {s : State} (held : s.lock = true) (awaiting : s.tstate = .awaitingLength) :
    engineStep s = .next s.await := by
  have nothing : fetch s = none := by simp [fetch, held, awaiting]
  rw [engineStep_of_fetch_none nothing]
  simp [transition, held, awaiting]

theorem engineStep_of_timedOut {s : State} (held : s.lock = true) (timedOut : s.tstate = .timedOut) :
    engineStep s = .next (s.raise .timeout) := by
  have nothing : fetch s = none := by simp [fetch, held, timedOut]
  rw [engineStep_of_fetch_none nothing]
  simp [transition, held, timedOut]

/-- A short read is malformed (R141). -/
theorem engineStep_of_short {s : State} (held : s.lock = true) (complete : s.tstate = .complete)
    (short : s.rxGot < s.expectN.toNat) : engineStep s = .next (s.raise .invalidFrame) := by
  have nothing : fetch s = none := by simp [fetch, held, complete, short]
  rw [engineStep_of_fetch_none nothing]
  simp [transition, held, complete]

/-- Settles O31: the transition out of `Sent`. -/
theorem sentRecordsTheDeadline : Obligations.SentRecordsTheDeadline := by
  intro s hs held sent
  rw [step_of_schedule_nil hs]
  exact engineStep_of_sent held sent

/-- Settles O29: the latch is the address string written over the old content of `CMD_ADDR`. -/
theorem acceptanceLoadsTheLatch : Obligations.AcceptanceLoadsTheLatch := by
  intro s c rest hs free first fits
  have short : c.addr.length ≤ 8 := addrFits_iff.mp fits
  refine ⟨overlay c.addr s.cmdAddr, overlay_take _ _, step_of_free hs free first, ?_⟩
  rw [BitVec.toNat_ofNat]
  omega

/-! ### A poll -/

theorem await_of_holding {s : State} {d : Word} (hold : s.pollHold = some d) (early : s.clock < s.tPoll + d.toNat) :
    s.await = s := by
  simp [State.await, hold, early]

/-- When no poll wait is in progress, or it is over, the engine polls (R136). -/
theorem await_of_waited {s : State} (waited : ∀ d, s.pollHold = some d → s.tPoll + d.toNat ≤ s.clock) :
    s.await = s.poll := by
  cases hold : s.pollHold with
  | none => simp [State.await, hold]
  | some d => simp [State.await, hold, Nat.not_lt.mpr (waited d hold)]

theorem poll_of_available {s : State} (available : s.expectN.toNat ≤ s.rxq.length) : s.poll = s.takeResponse := by
  simp [State.poll, State.chAvail, available]

theorem poll_of_late {s : State} (few : s.rxq.length < s.expectN.toNat) (late : s.deadline < s.clock) :
    s.poll = s.giveUp := by
  simp [State.poll, State.chAvail, Nat.not_le.mpr few, late]

theorem poll_of_in_time {s : State} (few : s.rxq.length < s.expectN.toNat) (inTime : s.clock ≤ s.deadline) :
    s.poll = s.startWait := by
  simp [State.poll, State.chAvail, Nat.not_le.mpr few, Nat.not_lt.mpr inTime]

/-- The read of `count` bytes out of at least as many (R134, R199). -/
theorem takeResponse_eq {s : State} {count : Nat} (reads : s.chReadCount s.expectN.toNat = count)
    (available : count ≤ s.rxq.length) :
    s.takeResponse = { s with
      rxBuf := s.rxq.take count ++ s.rxBuf.drop count, rxGot := count, rxq := s.rxq.drop count
      chReadLimit := none, tstate := .complete, pollHold := none } := by
  simp [State.takeResponse, State.chRead, overlay, reads, available]

/-- A step in `AwaitingLength` whose poll wait is over is a poll. -/
theorem step_of_poll {s : State} (hs : s.schedule = []) (held : s.lock = true) (awaiting : s.tstate = .awaitingLength)
    (waited : ∀ d, s.pollHold = some d → s.tPoll + d.toNat ≤ s.clock) : step s = .next s.poll := by
  rw [step_of_schedule_nil hs, engineStep_of_awaiting held awaiting, await_of_waited waited]

/-- Settles O32: the wait, then the three branches of the poll in their order. -/
theorem pollTakesItsTransitionsInOrder : Obligations.PollTakesItsTransitionsInOrder := by
  intro s hs held awaiting
  refine ⟨fun d hold early => ?_, fun waited => ?_⟩
  · rw [step_of_schedule_nil hs, engineStep_of_awaiting held awaiting, await_of_holding hold early]
  · rw [step_of_poll hs held awaiting waited]
    refine ⟨fun available whole => ?_, fun few late => ?_, fun few inTime => ?_⟩
    · rw [poll_of_available available, takeResponse_eq (chReadCount_eq _ whole) available, whole]
    · rw [poll_of_late few late]
      rfl
    · rw [poll_of_in_time few inTime]
      rfl

/-- Two steps run one after the other. -/
theorem run_two {s s' t : State} (first : step s = .next s') (second : step s' = .next t) :
    Host.Core.run Sys2Proof.core 2 s = .next t :=
  (run_succ_of_next first 1).trans (run_succ_of_next second 0)

/-- Settles O33: the poll gives up, and the step after it raises `Timeout`; neither touches the channel. -/
theorem timeoutLeavesTheChannelUnread : Obligations.TimeoutLeavesTheChannelUnread := by
  intro s hs held awaiting waited few late
  have gaveUp : step s = .next s.giveUp := by rw [step_of_poll hs held awaiting waited, poll_of_late few late]
  have ends : step s.giveUp = .next (s.giveUp.raise .timeout) := by
    rw [step_of_schedule_nil (s := s.giveUp) hs]
    exact engineStep_of_timedOut held rfl
  exact run_two gaveUp ends

/-- Settles O34: the poll reads `k` bytes, and the step after it finds fewer than `EXPECT_N`. -/
theorem shortReadEndsInvalidFrame : Obligations.ShortReadEndsInvalidFrame := by
  intro s k hs held awaiting waited available limit short
  have reads : s.chReadCount s.expectN.toNat = k := by
    simp only [State.chReadCount, limit]
    exact Nat.min_eq_right short.le
  have taken := takeResponse_eq reads (short.le.trans available)
  have took : step s = .next s.takeResponse := by
    rw [step_of_poll hs held awaiting waited, poll_of_available available]
  have got : s.takeResponse.rxGot < s.takeResponse.expectN.toNat := by
    rw [taken]
    exact short
  have ends : step s.takeResponse = .next (s.takeResponse.raise .invalidFrame) := by
    rw [step_of_schedule_nil (s := s.takeResponse) hs]
    exact engineStep_of_short held rfl got
  rw [run_two took ends, taken]
  rfl

/-! ### The response -/

/-- What a READ of `n` bytes delivers of the value of its response: RD_BIT one bit, every other command all of it (R158,
R160). -/
def deliverRead (n : Nat) (op : Opcode) (bitsel : BitVec 3) : Word → Word :=
  if n = 1 then deliverByte op bitsel else id

theorem deliverRead_apply (n : Nat) (op : Opcode) (bitsel : BitVec 3) (v : Word) :
    deliverRead n op bitsel v = if n = 1 ∧ op = 0b0000#4 then (v >>> bitsel.toNat) &&& 1#32 else v := by
  by_cases one : n = 1
  · simp only [deliverRead, deliverByte, extractBit, one, true_and, if_true]
  · simp only [deliverRead, one, false_and, if_false, id]

/-- Bytes as many as a READ of `n` waits for decode when their two markers are right, and then to a response whose
meaning is `readResponse` of these very bytes. -/
theorem decodeResponse_read {n : Nat} (mem : n ∈ [1, 2, 4]) {rx : List Byte} (whole : rx.length = 2 * n + 4) :
    ∃ i, (decodeResponse rx =
        if rx[0]? ≠ some stx then .error .badStart
        else if rx[1 + 2 * n]? ≠ some etx then .error .badEnd else .ok i) ∧
      (rx[0]? = some stx → rx[1 + 2 * n]? = some etx →
        ∀ s, exec i s = readResponse n rx (deliverRead n s.cmdOp s.bitsel) s) := by
  simp only [List.mem_cons, List.not_mem_nil, or_false] at mem
  obtain rfl | rfl | rfl := mem
  · match rx, whole with
    | [_, c0, c1, _, s0, s1], _ =>
      exact ⟨.rdresp1 c0 c1 s0 s1, by simp [decodeResponse], by rintro ⟨⟩ ⟨⟩ s; rfl⟩
  · match rx, whole with
    | [_, c0, c1, c2, c3, _, s0, s1], _ =>
      exact ⟨.rdresp2 c0 c1 c2 c3 s0 s1, by simp [decodeResponse], by rintro ⟨⟩ ⟨⟩ s; rfl⟩
  · match rx, whole with
    | [_, c0, c1, c2, c3, c4, c5, c6, c7, _, s0, s1], _ =>
      exact ⟨.rdresp4 c0 c1 c2 c3 c4 c5 c6 c7 s0 s1, by simp [decodeResponse], by rintro ⟨⟩ ⟨⟩ s; rfl⟩

theorem readResponse_of_none {n : Nat} {rx : List Byte} {s : State}
    (malformed : interpretRead s.config.dataLsbFirst n rx = none) (deliver : Word → Word) :
    readResponse n rx deliver s = .next (s.raise .invalidFrame) := by
  simp only [readResponse, malformed]

/-- Decoding checks the markers of `InterpretRead` (R153, R154) and the meaning checks the rest, so together they are
`InterpretRead`. -/
theorem engineStep_of_response {s : State} {n : Nat} {rx : List Byte} (mem : n ∈ [1, 2, 4])
    (whole : rx.length = 2 * n + 4) (fetched : fetch s = some (.response rx)) :
    engineStep s = readResponse n rx (deliverRead n s.cmdOp s.bitsel) s := by
  obtain ⟨i, decodes, means⟩ := decodeResponse_read mem whole
  by_cases start : rx[0]? = some stx
  · by_cases finish : rx[1 + 2 * n]? = some etx
    · have ok : decode (.response rx) = .ok i := by simp [decode, decodes, start, finish]
      rw [engineStep_of_decode_ok fetched ok, means start finish]
    · have bad : decode (.response rx) = .error .badEnd := by simp [decode, decodes, start, finish]
      rw [engineStep_of_decode_error fetched bad, readResponse_of_none (by simp [interpretRead, finish])]
      rfl
  · have bad : decode (.response rx) = .error .badStart := by simp [decode, decodes, start]
    rw [engineStep_of_decode_error fetched bad, readResponse_of_none (by simp [interpretRead, start])]
    rfl

/-- Settles O28: the bytes fetched are all that were waited for, and they are interpreted. -/
theorem responseStepIsInterpretRead : Obligations.ResponseStepIsInterpretRead := by
  intro s n mem hs held complete expects got size
  have fetched : fetch s = some (.response (s.rxBuf.take (2 * n + 4))) := by
    simp [fetch, held, complete, expects, got]
  have whole : (s.rxBuf.take (2 * n + 4)).length = 2 * n + 4 := by
    have small : n ≤ 4 := by
      obtain ⟨width, rfl⟩ := exists_width_of_mem mem
      exact bytes_le_four width
    rw [List.length_take, size]
    omega
  rw [step_of_schedule_nil hs, engineStep_of_response mem whole fetched]
  obtain ⟨malformed, answer⟩ | ⟨v, value, answer⟩ :=
    readResponse_cases n (s.rxBuf.take (2 * n + 4)) (deliverRead n s.cmdOp s.bitsel) s
  · rw [answer, malformed]
    rfl
  · rw [answer, value, deliverRead_apply]
    rfl

/-! ### Completing steps -/

/-- The command of `s` is completed in `t`: the lock is released, and one record says what `STATUS` and `RDATA` say
(R143); a fault keeps `RDATA` and clears `ACK_OK` (R186). -/
structure CompletesTo (s t : State) : Prop where
  held : s.lock = true
  free : t.lock = false
  idle : t.tstate = .idle
  notBusy : t.status.busy = false
  done : t.status.done = true
  record : t.records = s.records ++
    [{ req := s.cmdReq, err := t.status.err, ackOk := t.status.ackOk, rdata := t.rdata }]
  fault : t.status.err ≠ .ok → t.rdata = s.rdata ∧ t.status.ackOk = false

theorem CompletesTo.of_finish {s : State} {err : Err} {ackOk : Bool} {rdata : Word} (held : s.lock = true)
    (fault : err ≠ .ok → rdata = s.rdata ∧ ackOk = false) : CompletesTo s (s.finish err ackOk rdata) :=
  ⟨held, rfl, rfl, rfl, rfl, rfl, fault⟩

theorem CompletesTo.of_raise {s : State} (held : s.lock = true) (err : Err) : CompletesTo s (s.raise err) :=
  .of_finish held fun _ => ⟨rfl, rfl⟩

/-- A decoded response completes the command: an acknowledgement and a value with `OK`, a malformed one with a fault. -/
theorem CompletesTo.of_exec_response {s : State} {bytes : List Byte} {i : Instr} (held : s.lock = true)
    (hd : decodeResponse bytes = .ok i) : ∃ t, exec i s = .next t ∧ CompletesTo s t := by
  obtain ⟨k, rfl⟩ | ⟨n, rx, deliver, -, hx⟩ := exec_of_decodeResponse hd
  · exact ⟨_, rfl, .of_finish held fun fault => absurd rfl fault⟩
  · rw [hx]
    obtain ⟨-, hr⟩ | ⟨v, -, hr⟩ := readResponse_cases n rx (deliver s.cmdOp s.bitsel) s
    · exact ⟨_, hr, .of_raise held _⟩
    · exact ⟨_, hr, .of_finish held fun fault => absurd rfl fault⟩

/-- The engine's step in `Complete` and in `TimedOut` completes the command, whatever was read (R137). -/
theorem engineStep_completes {s : State} (held : s.lock = true)
    (ended : s.tstate = .complete ∨ s.tstate = .timedOut) :
    ∃ t, engineStep s = .next t ∧ CompletesTo s t ∧ t.schedule = s.schedule := by
  suffices answer : ∃ t, engineStep s = .next t ∧ CompletesTo s t by
    obtain ⟨t, ht, completes⟩ := answer
    exact ⟨t, ht, completes, engineStep_scheduleBlind.schedule_kept ht⟩
  obtain complete | timedOut := ended
  · by_cases short : s.rxGot < s.expectN.toNat
    · exact ⟨_, engineStep_of_short held complete short, .of_raise held _⟩
    · have fetched : fetch s = some (.response (s.rxBuf.take s.expectN.toNat)) := by
        simp [fetch, held, complete, short]
      cases hd : decode (.response (s.rxBuf.take s.expectN.toNat)) with
      | ok i =>
        rw [engineStep_of_decode_ok fetched hd]
        exact CompletesTo.of_exec_response held hd
      | error e =>
        rw [engineStep_of_decode_error fetched hd]
        exact ⟨_, rfl, .of_raise held _⟩
  · exact ⟨_, engineStep_of_timedOut held timedOut, .of_raise held _⟩

/-- A poll after the deadline leaves `AwaitingLength`, with the bytes or without them (R134, R135). -/
theorem await_past_deadline {s : State} (waited : ∀ d, s.pollHold = some d → s.tPoll + d.toNat ≤ s.clock)
    (late : s.deadline < s.clock) : s.await = s.takeResponse ∨ s.await = s.giveUp := by
  rw [await_of_waited waited]
  obtain available | few := le_or_gt s.expectN.toNat s.rxq.length
  · exact .inl (poll_of_available available)
  · exact .inr (poll_of_late few late)

/-- Two steps of the engine after the deadline and the poll wait: the poll and the completion (R139). -/
theorem run_past_deadline {s : State} {rest : List Move} (held : s.lock = true) (awaiting : s.tstate = .awaitingLength)
    (hs : s.schedule = .engine :: .engine :: rest) (late : s.deadline < s.clock)
    (waited : ∀ d, s.pollHold = some d → s.tPoll + d.toNat ≤ s.clock) :
    ∃ t, Host.Core.run Sys2Proof.core 2 s = .next t ∧ CompletesTo s t ∧ t.schedule = rest := by
  have polls : step s = .next (s.await.withSchedule (.engine :: rest)) := by
    rw [step_of_schedule_engine hs, engineStep_scheduleBlind, engineStep_of_awaiting held awaiting]
    rfl
  obtain ⟨locked, req, records, rdata, ended⟩ : s.await.lock = true ∧ s.await.cmdReq = s.cmdReq ∧
      s.await.records = s.records ∧ s.await.rdata = s.rdata ∧
      (s.await.tstate = .complete ∨ s.await.tstate = .timedOut) := by
    obtain taken | gaveUp := await_past_deadline waited late
    · rw [taken]
      exact ⟨held, rfl, rfl, rfl, .inl rfl⟩
    · rw [gaveUp]
      exact ⟨held, rfl, rfl, rfl, .inr rfl⟩
  obtain ⟨t, ht, completes, scheduled⟩ := engineStep_completes (s := s.await.withSchedule rest) locked ended
  refine ⟨t, run_two polls ?_, ?_, scheduled⟩
  · rw [step_of_schedule_engine (State.withSchedule_schedule s.await _)]
    exact ht
  · exact { completes with
      held := held
      record := by rw [completes.record, ← records, ← req]; rfl
      fault := fun fault => rdata ▸ completes.fault fault }

/-- Settles O44: after the tick the clock is past the deadline and the poll wait. -/
theorem clockPastDeadlineReleases : Obligations.ClockPastDeadlineReleases := by
  intro s d rest held awaiting hs late waited
  have ticks : step s = .next { s.withSchedule (.engine :: .engine :: rest) with clock := s.clock + d } :=
    step_of_schedule_environment (m := .tick d) nofun hs
  obtain ⟨t, ht, completes, scheduled⟩ := run_past_deadline
    (s := { s.withSchedule (.engine :: .engine :: rest) with clock := s.clock + d }) held awaiting rfl late waited
  exact ⟨t, (run_succ_of_next ticks 2).trans ht, completes.free, completes.idle, completes.notBusy, completes.done,
    scheduled, completes.record⟩

/-! ### What a step does to the results and to `TXLOG` -/

/-- A step is a move of the environment that the schedule names, or the engine's own step. -/
theorem step_next_engineStep {s t : State} (h : step s = .next t) :
    (∃ m, s.schedule.head? = some m ∧ environmentMove m (s.withSchedule s.schedule.tail) = .next t) ∨
    engineStep (s.withSchedule s.schedule.tail) = .next t := by
  obtain ⟨hs, he⟩ | ⟨rest, hs, he⟩ | ⟨m, rest, -, hs, he⟩ := step_cases s <;> rw [he] at h
  · rw [State.withSchedule_of_nil hs]
    exact .inr h
  · rw [hs]
    exact .inr h
  · rw [hs]
    exact .inl ⟨m, rfl, h⟩

/-- The step emits no record and keeps `RDATA`; lock and `STATUS` stay, or it is an acceptance (R142, R189). -/
def KeepsResults (s t : State) : Prop :=
  t.records = s.records ∧ t.rdata = s.rdata ∧
    ((t.lock = s.lock ∧ t.status = s.status) ∨
     (s.lock = false ∧ t.lock = true ∧ t.status = s.status.accepted ∧
      ∃ c, s.waiting = c :: t.waiting ∧ t.cmdReq = c.req))

/-- The engine's step keeps the results or completes the command. -/
theorem engineStep_keepsResults_or_completes {s t : State} (h : engineStep s = .next t) :
    KeepsResults s t ∨ CompletesTo s t := by
  cases EngineMove.of_engineStep h with
  | accepts free first => exact .inl ⟨rfl, rfl, .inr ⟨free, rfl, rfl, _, first, rfl⟩⟩
  | stays | builds | sends | recordsDeadline | takesResponse | givesUp | startsWait =>
    exact .inl ⟨rfl, rfl, .inl ⟨rfl, rfl⟩⟩
  | refuses held => exact .inr (.of_raise held _)
  | refusesParsed held => exact .inr { CompletesTo.of_raise (s := s.setParsed _ _) held _ with }
  | completes held ended =>
    obtain ⟨t', ht', completes, -⟩ := engineStep_completes held ended
    cases ht'.symm.trans h
    exact .inr completes

/-- Settles O47: the environment touches results by reset alone, and the engine's step keeps them or completes. -/
theorem resultsChangeOnlyAtCompletion : Obligations.ResultsChangeOnlyAtCompletion := by
  intro s t h noReset
  obtain ⟨m, hm, he⟩ | he := step_next_engineStep h
  · have frame := environmentMove_frame (fun hr => noReset (hr ▸ hm)) he
    exact .inl ⟨(congrArg State.records frame :), (congrArg State.rdata frame :),
      .inl ⟨(congrArg State.lock frame :), (congrArg State.status frame :)⟩⟩
  · obtain keeps | completes := engineStep_keepsResults_or_completes he
    · exact .inl keeps
    · exact .inr ⟨completes.held, completes.free, completes.idle, completes.notBusy, completes.done,
        completes.record, completes.fault⟩

/-- A request frame is sent as it is (R131). -/
theorem exec_of_encode_request {i : Instr} {bytes : List Byte} (h : encode i = .request bytes) (s : State) :
    exec i s = .next (s.send bytes) := by
  cases i with
  | read1 | read2 | read4 | write1 | write2 | write4 | setBit | resetBit =>
    cases h
    rfl
  | _ => cases h

/-- What is sent is the frame in `TXBUF`, which decoded as a request. -/
theorem engineStep_of_built {s t : State} (held : s.lock = true) (idle : s.tstate = .idle)
    (built : s.frameReady = true) (h : engineStep s = .next t) :
    isRequest (s.txBuf.take s.txLen.toNat) = true ∧ t = s.send (s.txBuf.take s.txLen.toNat) := by
  have fetched : fetch s = some (.request (s.txBuf.take s.txLen.toNat)) := by simp [fetch, held, idle, built]
  cases hd : decode (.request (s.txBuf.take s.txLen.toNat)) with
  | ok i =>
    rw [engineStep_of_decode_ok fetched hd, exec_of_encode_request (encode_of_decodeRequest hd)] at h
    cases h
    exact ⟨isRequest_iff.mpr ⟨i, hd⟩, rfl⟩
  | error e =>
    rw [engineStep_of_decode_error fetched hd] at h
    cases h

/-- Settles O50: of all moves only the engine's sending writes `TXLOG`, and it sends the frame in `TXBUF`. -/
theorem transmitLogGrowsByWholeFrames : Obligations.TransmitLogGrowsByWholeFrames := by
  intro s t h
  obtain ⟨m, -, he⟩ | he := step_next_engineStep h
  · exact .inl (environmentMove_txlog_kept he :)
  · cases EngineMove.of_engineStep he with
    | sends held idle built =>
      obtain ⟨request, sent⟩ := engineStep_of_built held idle built he
      exact .inr ⟨held, idle, built, rfl, request, (congrArg State.txlog sent :)⟩
    | stays | accepts | refuses | refusesParsed | builds | recordsDeadline | takesResponse | givesUp | startsWait |
      completes => exact .inl rfl

/-! ### Submissions -/

/-- A submission that does not fit the latch (R12), one of a blocked requester (R201), and one that is taken. -/
theorem step_submit (s : State) (rest : List Move) (place : Nat) (c : Command) :
    step { s with schedule := .submit place c :: rest } =
      if c.wellFormed = false then .refused .commandNotSubmittable
      else if s.blocked c.req = true then .refused .requesterBlocked
      else .next { s with schedule := rest, waiting := insertAt place c s.waiting } := by
  rw [step_environment_cons s (.submit place c) nofun rest]
  simp only [environmentMove, Bool.not_eq_true']
  rfl

/-- Settles O38: the place after `before` puts the command between `before` and the rest. -/
theorem grantOrderIsOpen : Obligations.GrantOrderIsOpen := by
  intro s c rest
  refine ⟨fun fits notInFlight notWaiting before after split => ?_, fun long place => ?_, fun fits own place => ?_⟩
  · have unblocked : s.blocked c.req = false := blocked_eq_false_iff.mpr ⟨notInFlight, notWaiting⟩
    rw [step_submit, split, insertAt_append]
    simp [fits, unblocked]
  · have unfit : c.wellFormed = false := by
      rw [← Bool.not_eq_true]
      exact fun fits => absurd (addrFits_iff.mp fits) (Nat.not_le.mpr long)
    rw [step_submit, if_pos unfit]
  · have blocked : s.blocked c.req = true := blocked_iff.mpr own
    rw [step_submit]
    simp [fits, blocked]

end Sys2Proof.Machine

/-! ## The Response Interpreter

The statements O25, O26 and O27. The characters of a read response are put between its markers (`responseOf`), where
`InterpretRead` checks the checksum and the digits alone (`interpretRead_responseOf`). That gives one rule for well-formed
and one for malformed responses of every length, and the statements are their cases. -/

namespace Sys2Proof.Machine

/-! ### The acknowledgement -/

theorem ackFlag_eq (k : Byte) : ackFlag k = (k.toNat == 0x06) := by
  rw [Bool.eq_iff_iff, ackFlag, beq_iff_eq, beq_iff_eq, ← BitVec.toNat_inj]
  rfl

/-- Settles O25: an acknowledgement is the normal completion of a write. -/
theorem acknowledgementCompletes : Obligations.AcknowledgementCompletes := fun s k => by
  rw [← ackFlag_eq]
  rfl

/-! ### The bytes of a read response -/

/-- The bytes of the read response with the given data and checksum characters (R72). -/
def responseOf (data : List Byte) (x y : Byte) : List Byte := stx :: (data ++ [etx, x, y])

/-- Between its markers a response is judged by its checksum (R155) and its digits (R156). -/
theorem interpretRead_responseOf (lsbFirst : Bool) {n : Nat} {data : List Byte} (size : data.length = 2 * n)
    (x y : Byte) : interpretRead lsbFirst n (responseOf data x y) =
      if [x, y] = sumDigits (data ++ [etx]) then (asciiHexToBytes data).map (bytesToValue lsbFirst) else none := by
  have start : (responseOf data x y)[0]? = some stx := rfl
  have finish : (responseOf data x y)[1 + 2 * n]? = some etx := by
    simp [responseOf, Nat.add_comm 1, ← size]
  have checksum : slice (responseOf data x y) (2 + 2 * n) 2 = [x, y] := by
    simp [slice, responseOf, ← size, Nat.add_comm 2]
  have summed : slice (responseOf data x y) 1 (2 * n + 1) = data ++ [etx] := by
    simp [slice, responseOf, ← size, List.take_length_add_append]
  have characters : slice (responseOf data x y) 1 (2 * n) = data := by
    simp [slice, responseOf, ← size]
  simp only [interpretRead, start, finish, checksum, summed, characters, checksumAscii_eq_sumDigits, ne_eq,
    not_true_eq_false, if_false, ite_not]

/-- A checksum that does not match, or a character that is no digit, ends the command (R159, R186). -/
theorem readResponse_malformed {s : State} {n : Nat} {data : List Byte} {x y : Byte} (size : data.length = 2 * n)
    (malformed : [x, y] ≠ sumDigits (data ++ [etx]) ∨ ∃ c ∈ data, hexVal c = none) (deliver : Word → Word) :
    readResponse n (responseOf data x y) deliver s = .next (s.faultedWith .invalidFrame) := by
  apply readResponse_of_none
  rw [interpretRead_responseOf _ size]
  obtain mismatch | noDigit := malformed
  · exact if_neg mismatch
  · rw [asciiHexToBytes_eq_none.mpr (.inr noDigit), Option.map_none, ite_self]

/-- The characters of bytes under their checksum deliver the value of the bytes (R157, R187). -/
theorem readResponse_wellFormed {s : State} {bytes : List Byte} {x y : Byte}
    (summed : [x, y] = sumDigits (bytes.flatMap byteDigits ++ [etx])) (deliver : Word → Word) :
    readResponse bytes.length (responseOf (bytes.flatMap byteDigits) x y) deliver s =
      .next (s.completedWith .ok false (deliver (bytesToValue s.config.dataLsbFirst bytes))) := by
  have value : interpretRead s.config.dataLsbFirst bytes.length (responseOf (bytes.flatMap byteDigits) x y) =
      some (bytesToValue s.config.dataLsbFirst bytes) := by
    rw [interpretRead_responseOf _ (by rw [← hexOfBytes_eq_flatMap_byteDigits, hexOfBytes_length]), if_pos summed,
      ← hexOfBytes_eq_flatMap_byteDigits, asciiHexToBytes_hexOfBytes, Option.map_some]
  simp only [readResponse, value]
  rfl

/-- Settles O27: the three lengths are cases of one rule. -/
theorem malformedReadResponsesFault : Obligations.MalformedReadResponsesFault := by
  intro s c0 c1 c2 c3 c4 c5 c6 c7 x y
  refine ⟨fun malformed => ?_, fun malformed => ?_, fun malformed => ?_⟩
  · exact readResponse_malformed (data := [c0, c1]) rfl malformed (deliverByte s.cmdOp s.bitsel)
  · exact readResponse_malformed (data := [c0, c1, c2, c3]) rfl malformed id
  · exact readResponse_malformed (data := [c0, c1, c2, c3, c4, c5, c6, c7]) rfl malformed id

/-! ### The value delivered -/

/-- A byte joined below a word has the weight 1 and the word the weight 256. -/
theorem byte_append_toNat {w : Nat} (high : BitVec w) (low : Byte) :
    (high ++ low).toNat = low.toNat + 256 * high.toNat := by
  rw [BitVec.toNat_append, ← Nat.shiftLeft_add_eq_or_of_lt low.isLt, Nat.shiftLeft_eq]
  omega

/-- One byte is its own value in either order (R157). -/
theorem bytesToValue_one (lsbFirst : Bool) (b : Byte) : bytesToValue lsbFirst [b] = b.setWidth 32 := by
  rw [← BitVec.ofNat_toNat]
  cases lsbFirst <;> rfl

/-- Two bytes join to the zero-extended value, the first one low for the least significant first (R116, R157). -/
theorem bytesToValue_two (lsbFirst : Bool) (b0 b1 : Byte) :
    bytesToValue lsbFirst [b0, b1] = if lsbFirst then (b1 ++ b0).setWidth 32 else (b0 ++ b1).setWidth 32 := by
  have joined (low high : Byte) : BitVec.ofNat 32 (bytesToNat [low, high]) = (high ++ low).setWidth 32 := by
    rw [← BitVec.ofNat_toNat, byte_append_toNat]
    rfl
  cases lsbFirst
  · exact joined b1 b0
  · exact joined b0 b1

/-- Four bytes are a whole value (R116). -/
theorem bytesToValue_four (lsbFirst : Bool) (b0 b1 b2 b3 : Byte) :
    bytesToValue lsbFirst [b0, b1, b2, b3] =
      if lsbFirst then b3 ++ b2 ++ b1 ++ b0 else b0 ++ b1 ++ b2 ++ b3 := by
  have joined (c0 c1 c2 c3 : Byte) : BitVec.ofNat 32 (bytesToNat [c0, c1, c2, c3]) = c3 ++ c2 ++ c1 ++ c0 := by
    have digits : bytesToNat [c0, c1, c2, c3] = (c3 ++ c2 ++ c1 ++ c0).toNat := by
      rw [byte_append_toNat, byte_append_toNat, byte_append_toNat]
      rfl
    rw [digits, BitVec.ofNat_toNat]
    exact BitVec.setWidth_eq _
  cases lsbFirst
  · exact joined b3 b2 b1 b0
  · exact joined b0 b1 b2 b3

/-- The bit of a byte that shift and mask leave (R158). -/
theorem extractBit_byte (b : Byte) (bitsel : BitVec 3) :
    extractBit (b.setWidth 32) bitsel = if b.getLsbD bitsel.toNat then 1#32 else 0#32 := by
  have inside : bitsel.toNat < 32 := bitsel.isLt.trans (by decide)
  have shifted : (b.setWidth 32 >>> bitsel.toNat).getLsbD 0 = b.getLsbD bitsel.toNat := by
    simp [inside]
  rw [extractBit, BitVec.and_one_eq_setWidth_ofBool_getLsbD, shifted]
  cases b.getLsbD bitsel.toNat <;> rfl

/-- Settles O26: the three lengths are cases of one rule; after RD_BIT one bit of the byte is delivered. -/
theorem wellFormedReadResponsesDeliver : Obligations.WellFormedReadResponsesDeliver := by
  intro s b0 b1 b2 b3 x y
  refine ⟨fun summed => ?_, fun summed => ?_, fun summed => ?_⟩
  · rw [← extractBit_byte, ← bytesToValue_one s.config.dataLsbFirst]
    exact readResponse_wellFormed (bytes := [b0]) summed (deliverByte s.cmdOp s.bitsel)
  · rw [← bytesToValue_two]
    exact readResponse_wellFormed (bytes := [b0, b1]) summed id
  · rw [← bytesToValue_four]
    exact readResponse_wellFormed (bytes := [b0, b1, b2, b3]) summed id

end Sys2Proof.Machine

/-! ## The read commands

The statements O16, O19 and O53. The nine byte-operation commands share one local phase, so each way it can end is said
once (`localPhase_of_unparsed`, `localPhase_of_unresolved`, `localPhase_of_resolved`). A whole command is a chain of
single steps: the local phase, the exchange over the channel (`run_exchange`, the same for every command), and the
response. -/

namespace Sys2Proof.Machine

/-! ### How a local phase ends -/

section
variable {byteOperation : Bool} {build : Area → UnitAddr → UnitAddr → State → State} {addr : List Byte} {s : State}

theorem localPhase_of_unparsed {e : Err} (unparsed : parseAddress addr = .error e) :
    localPhase byteOperation build addr s = .next (s.raise e) := by
  simp only [localPhase, unparsed]

theorem localPhase_of_unresolved {a : Area} {o : UnitAddr} {e : Err} (parsed : parseAddress addr = .ok (a, o))
    (unresolved : resolve s.config a o byteOperation = .error e) :
    localPhase byteOperation build addr s = .next ((s.setParsed a o).raise e) := by
  simp only [localPhase, parsed, unresolved]

theorem localPhase_of_resolved {a : Area} {o u : UnitAddr} (parsed : parseAddress addr = .ok (a, o))
    (resolved : resolve s.config a o byteOperation = .ok u) :
    localPhase byteOperation build addr s = .next (build a o u s) := by
  simp only [localPhase, parsed, resolved]

end

/-! ### Building the READ frame -/

/-- What a local phase builds, in the words of Safety.lean. -/
theorem State.build_eq_builtAs (s : State) (a : Area) (o u : UnitAddr) (n : Nat) (frame : List Byte) (expect : Nat) :
    s.build a o u n frame expect =
      ({ s.parsedAs a o with len := BitVec.ofNat 8 n } : State).builtAs u frame expect := rfl

/-- What a read command of the width makes of the state when its address resolves (R160). -/
def State.readBuilt (s : State) (a : Area) (o u : UnitAddr) (width : Config.ValueWidth) : State :=
  s.build a o u width.bytes (specReadFrame u width.bytes) (2 * width.bytes + 4)

theorem buildRead_width_eq_spec (u : UnitAddr) (width : Config.ValueWidth) :
    buildRead u width.bytes = specReadFrame u width.bytes :=
  buildRead_eq_spec u (Nat.lt_of_le_of_lt (bytes_le_four width) (by decide))

/-- A read command whose address resolves builds its frame (R160). -/
theorem readCommand_of_resolved {addr : List Byte} {s : State} {a : Area} {o u : UnitAddr}
    (width : Config.ValueWidth) (parsed : parseAddress addr = .ok (a, o))
    (resolved : resolve s.config a o true = .ok u) :
    readCommand width addr s = .next (s.readBuilt a o u width) := by
  rw [readCommand_eq_localPhase, localPhase_of_resolved parsed resolved, buildRead_width_eq_spec]
  rfl

/-- Settles O16: the five commands are `readCommand` of their widths. -/
theorem readCommandsBuildTheirFrame : Obligations.ReadCommandsBuildTheirFrame := by
  intro addr s a o u parsed resolved
  have built (width : Config.ValueWidth) := readCommand_of_resolved width parsed resolved
  simp only [State.readBuilt, State.build_eq_builtAs] at built
  simp only [List.forall_mem_cons, List.not_mem_nil, false_imp_iff, implies_true, and_true]
  exact ⟨built .one, built .one, built .two, built .four, built .four⟩

/-! ### The local faults -/

/-- The read commands and the byte-operation write commands are local phases that resolve a byte operation (R160,
R170). -/
theorem exec_byteOperation_eq_localPhase (addr : List Byte) (w : Word) :
    ∀ i ∈ [Instr.rdBit addr, Instr.rdByte addr, Instr.rdU16 addr, Instr.rdU32 addr, Instr.rdF32 addr,
      Instr.wrByte addr w, Instr.wrU16 addr w, Instr.wrU32 addr w, Instr.wrF32 addr w],
      ∃ build, exec i = localPhase true build addr := by
  have read (width : Config.ValueWidth) : ∃ build, readCommand width addr = localPhase true build addr :=
    ⟨_, readCommand_eq_localPhase width addr⟩
  have write (width : Config.ValueWidth) : ∃ build, writeCommand width addr w = localPhase true build addr :=
    ⟨_, writeCommand_eq_localPhase width addr w⟩
  simp only [List.forall_mem_cons, List.not_mem_nil, false_imp_iff, implies_true, and_true]
  exact ⟨read .one, read .one, read .two, read .four, read .four, write .one, write .two, write .four, write .four⟩

/-- A D offset from 30720 on has its unit address above 0xFFFF (R96, R107). -/
theorem resolve_byte_D_error {st : Straps} {o : UnitAddr} (large : 30720 ≤ o.toNat) :
    resolve st .D o true = .error .invalidAddress := by
  rw [resolve_byte, checkRange_eq_error, byteFormula_overflows]
  exact ⟨⟨rfl, large⟩, rfl⟩

/-- Settles O19: the local phase ends in the parser, or in the resolver with the parsed registers written. -/
theorem byteOperationLocalFaults : Obligations.ByteOperationLocalFaults := by
  intro addr w s i mem
  obtain ⟨build, phase⟩ := exec_byteOperation_eq_localPhase addr w i mem
  rw [phase]
  refine ⟨fun e unparsed => ?_, fun o parsed large => ?_⟩
  · rw [localPhase_of_unparsed unparsed, parseAddress_error unparsed]
    rfl
  · exact localPhase_of_unresolved parsed (resolve_byte_D_error large)

/-! ### The exchange over the channel -/

/-- A step of the engine that the schedule names, from a state whose own schedule does not matter. -/
theorem step_withSchedule_engine {s t : State} (h : engineStep s = .next t) (rest : List Move) :
    step (s.withSchedule (.engine :: rest)) = .next (t.withSchedule rest) :=
  calc step (s.withSchedule (.engine :: rest))
    _ = engineStep (s.withSchedule rest) := step_of_schedule_engine rfl
    _ = rescheduled rest (engineStep s) := engineStep_scheduleBlind s rest
    _ = .next (t.withSchedule rest) := by rw [h]; rfl

theorem State.withSchedule_of_eq {s : State} {moves : List Move} (hs : s.schedule = moves) :
    s.withSchedule moves = s := by
  rw [← hs]
  rfl

/-- A latched command whose frame is not built runs (R57). -/
theorem engineStep_of_latched {s : State} (held : s.lock = true) (idle : s.tstate = .idle)
    (unbuilt : s.frameReady = false) :
    engineStep s = exec (decodeCommand s.cmdOp s.latchedAddr s.cmdWdata) s := by
  have latched : fetch s = some (.command s.cmdOp s.latchedAddr s.cmdWdata) := by simp [fetch, held, idle, unbuilt]
  exact engineStep_of_decode_ok latched rfl

/-- A built request frame is sent as it stands in `TXBUF` (R131). -/
theorem engineStep_sends {s : State} {frame : List Byte} (held : s.lock = true) (idle : s.tstate = .idle)
    (built : s.frameReady = true) (stands : s.txBuf.take s.txLen.toNat = frame) (request : isRequest frame = true) :
    engineStep s = .next (s.send frame) := by
  have fetched : fetch s = some (.request frame) := by simp [fetch, held, idle, built, stands]
  obtain ⟨i, decodes⟩ := isRequest_iff.mp request
  rw [engineStep_of_decode_ok fetched decodes, exec_of_encode_request (encode_of_decodeRequest decodes)]

/-- `s` after `frame` was sent and the deadline recorded, with `arriving` come in before the first poll (R131, R132). -/
def State.answered (s : State) (frame arriving : List Byte) : State :=
  { (s.send frame).recordDeadline with rxq := s.rxq ++ arriving }

/-- No wait precedes the first poll, so enough bytes are taken at once (R133, R134). -/
theorem engineStep_answered {s : State} {frame arriving : List Byte} (held : s.lock = true)
    (available : s.expectN.toNat ≤ (s.rxq ++ arriving).length) :
    engineStep (s.answered frame arriving) = .next (s.answered frame arriving).takeResponse := by
  have noWait : ∀ d, (s.answered frame arriving).pollHold = some d →
      (s.answered frame arriving).tPoll + d.toNat ≤ (s.answered frame arriving).clock := nofun
  rw [engineStep_of_awaiting (s := s.answered frame arriving) held rfl, await_of_waited noWait,
    poll_of_available (s := s.answered frame arriving) available]

/-- From the built frame to the response read: four steps, when enough bytes have come before the first poll. -/
theorem run_exchange {s : State} {frame arriving : List Byte} {rest : List Move} (held : s.lock = true)
    (idle : s.tstate = .idle) (built : s.frameReady = true) (stands : s.txBuf.take s.txLen.toNat = frame)
    (request : isRequest frame = true) (available : s.expectN.toNat ≤ (s.rxq ++ arriving).length) (k : Nat) :
    Host.Core.run Sys2Proof.core (k + 4)
        (s.withSchedule (.engine :: .engine :: .arrive arriving :: .engine :: rest)) =
      Host.Core.run Sys2Proof.core k ((s.answered frame arriving).takeResponse.withSchedule rest) := by
  have sends := step_withSchedule_engine (engineStep_sends held idle built stands request)
    (.engine :: .arrive arriving :: .engine :: rest)
  have records := step_withSchedule_engine (engineStep_of_sent (s := s.send frame) held rfl)
    (.arrive arriving :: .engine :: rest)
  have arrives : step ((s.send frame).recordDeadline.withSchedule (.arrive arriving :: .engine :: rest)) =
      .next ((s.answered frame arriving).withSchedule (.engine :: rest)) :=
    step_of_schedule_environment (m := .arrive arriving) nofun rfl
  have takes := step_withSchedule_engine (engineStep_answered (frame := frame) held available) rest
  rw [run_succ_of_next sends, run_succ_of_next records, run_succ_of_next arrives, run_succ_of_next takes]

/-- The bytes read are the response once there are as many as were waited for (R137, R150). -/
theorem fetch_of_complete {s : State} {response : List Byte} (held : s.lock = true) (complete : s.tstate = .complete)
    (got : s.expectN.toNat ≤ s.rxGot) (stored : s.rxBuf.take s.expectN.toNat = response) :
    fetch s = some (.response response) := by
  simp [fetch, held, complete, got, stored]

/-- A channel that keeps its contract gives the bytes waited for, in order, and keeps those behind them (R134, R199,
R218). -/
theorem takeResponse_whole {s : State} {response surplus : List Byte} (held : s.lock = true)
    (whole : s.chReadLimit = none) (queue : s.rxq = response ++ surplus) (expects : s.expectN.toNat = response.length) :
    fetch s.takeResponse = some (.response response) ∧ s.takeResponse.rxq = surplus := by
  have reads : s.chReadCount s.expectN.toNat = response.length := (chReadCount_eq _ whole).trans expects
  have taken : s.rxq.take (s.chReadCount s.expectN.toNat) = response := by rw [reads, queue, List.take_left]
  constructor
  · refine fetch_of_complete (s := s.takeResponse) held rfl ?got ?stored
    case got => rw [State.takeResponse_rxGot, taken, State.takeResponse_expectN, expects]
    case stored => rw [State.takeResponse_rxBuf, taken, State.takeResponse_expectN, expects, overlay_take]
  · rw [State.takeResponse_rxq, reads, queue, List.drop_left]

/-- The first poll takes the response from the front of what lay in `RXQ` and what arrived (R217, R218). -/
theorem answered_whole {s : State} {arriving response surplus : List Byte} (held : s.lock = true)
    (whole : s.chReadLimit = none) (queue : s.rxq ++ arriving = response ++ surplus)
    (expects : s.expectN.toNat = response.length) (frame : List Byte) :
    fetch (s.answered frame arriving).takeResponse = some (.response response) ∧
      (s.answered frame arriving).takeResponse.rxq = surplus :=
  takeResponse_whole (s := s.answered frame arriving) held whole queue expects

/-! ### The response of a read command -/

theorem responseOf_digits_length (bytes : List Byte) (x y : Byte) :
    (responseOf (bytes.flatMap byteDigits) x y).length = 2 * bytes.length + 4 := by
  simp [responseOf, ← hexOfBytes_eq_flatMap_byteDigits]

/-- The well-formed response in the words of the wire (R72). -/
theorem wireResponse_eq_responseOf {bytes : List Byte} {x y : Byte}
    (summed : [x, y] = sumDigits (bytes.flatMap byteDigits ++ [etx])) :
    [0x02#8] ++ bytes.flatMap byteDigits ++ [0x03#8] ++ sumDigits (bytes.flatMap byteDigits ++ [0x03#8]) =
      responseOf (bytes.flatMap byteDigits) x y := by
  have checksum : sumDigits (bytes.flatMap byteDigits ++ [0x03#8]) = [x, y] := summed.symm
  simp [checksum, responseOf, stx, etx]

/-- A well-formed response in `RXBUF` completes the read with what is delivered of its value (R157, R187). -/
theorem engineStep_of_wellFormed {s : State} {bytes : List Byte} {x y : Byte} (size : bytes.length ∈ [1, 2, 4])
    (summed : [x, y] = sumDigits (bytes.flatMap byteDigits ++ [etx]))
    (fetched : fetch s = some (.response (responseOf (bytes.flatMap byteDigits) x y))) :
    engineStep s = .next (s.completedWith .ok false
      (deliverRead bytes.length s.cmdOp s.bitsel (bytesToValue s.config.dataLsbFirst bytes))) := by
  rw [engineStep_of_response size (responseOf_digits_length bytes x y) fetched, readResponse_wellFormed summed]

/-- The number delivered: one bit of the value after RD_BIT, the value otherwise (R158, R160). -/
theorem deliverRead_toNat (n : Nat) (op : Opcode) (bitsel : BitVec 3) (v : Word) :
    (deliverRead n op bitsel v).toNat =
      if n = 1 ∧ op = 0b0000#4 then v.toNat / 2 ^ bitsel.toNat % 2 else v.toNat := by
  rw [deliverRead_apply, apply_ite BitVec.toNat, BitVec.toNat_and, BitVec.toNat_ushiftRight,
    Nat.shiftRight_eq_div_pow]
  exact congrArg (if n = 1 ∧ op = 0b0000#4 then · else v.toNat) (Nat.and_one_is_mod _)

/-! ### A whole read command -/

theorem width_bytes_mem (width : Config.ValueWidth) : width.bytes ∈ [1, 2, 4] := by
  cases width <;> simp

/-- The five read opcodes and how many bytes each of them reads (R161 to R165). -/
theorem exec_decodeCommand_read {op : Opcode} {p : Nat × Nat} (mem : p ∈ [(0, 1), (1, 1), (2, 2), (3, 4), (4, 4)])
    (opcode : op.toNat = p.1) (addr : List Byte) (wdata : Word) :
    ∃ width : Config.ValueWidth, width.bytes = p.2 ∧ (p.1 = 0 → p.2 = 1) ∧
      exec (decodeCommand op addr wdata) = readCommand width addr := by
  simp only [List.mem_cons, List.not_mem_nil, or_false] at mem
  obtain rfl | rfl | rfl | rfl | rfl := mem
  all_goals rw [decodeCommand, opcode]
  · exact ⟨.one, rfl, fun _ => rfl, rfl⟩
  · exact ⟨.one, rfl, nofun, rfl⟩
  · exact ⟨.two, rfl, nofun, rfl⟩
  · exact ⟨.four, rfl, nofun, rfl⟩
  · exact ⟨.four, rfl, nofun, rfl⟩

/-- The frame that a read command has built stands in `TXBUF`, and as many bytes are waited for as its response has
(R19, R20). -/
theorem readBuilt_frame (s : State) (a : Area) (o u : UnitAddr) (width : Config.ValueWidth) :
    (s.readBuilt a o u width).txBuf.take (s.readBuilt a o u width).txLen.toNat = specReadFrame u width.bytes ∧
      (s.readBuilt a o u width).expectN.toNat = 2 * width.bytes + 4 := by
  have short : (specReadFrame u width.bytes).length < 32 := by
    rw [← buildRead_width_eq_spec, buildRead_length]
    decide
  refine ⟨txBuf_setFrame _ short, ?_⟩
  cases width <;> rfl

/-- `s` after the READ frame was built and sent, and the response read out of what arrived before the first poll. -/
def State.readTaken (s : State) (a : Area) (o u : UnitAddr) (width : Config.ValueWidth) (arriving : List Byte) :
    State :=
  ((s.readBuilt a o u width).answered (specReadFrame u width.bytes) arriving).takeResponse

/-- What the completing step will look at: the latch and the records are still those of the accepted command, `BITSEL`
is that of its offset (R18), and the channel was given its frame (R131). -/
theorem readTaken_frame (s : State) (a : Area) (o u : UnitAddr) (width : Config.ValueWidth) (arriving : List Byte) :
    (s.readTaken a o u width arriving).cmdOp = s.cmdOp ∧ (s.readTaken a o u width arriving).cmdReq = s.cmdReq ∧
      (s.readTaken a o u width arriving).config = s.config ∧
      (s.readTaken a o u width arriving).records = s.records ∧
      (s.readTaken a o u width arriving).bitsel = o.extractLsb' 0 3 ∧
      (s.readTaken a o u width arriving).txlog = s.txlog ++ specReadFrame u width.bytes := by
  simp [State.readTaken, State.answered, State.readBuilt, State.build]

/-- From the latched read command to its response read: five steps (R160, R131 to R134). -/
theorem run_read {s : State} {width : Config.ValueWidth} {a : Area} {o u : UnitAddr} {arriving : List Byte}
    {rest : List Move} (held : s.lock = true) (idle : s.tstate = .idle)
    (reads : engineStep s = .next (s.readBuilt a o u width))
    (available : 2 * width.bytes + 4 ≤ (s.rxq ++ arriving).length)
    (hs : s.schedule = .engine :: .engine :: .engine :: .arrive arriving :: .engine :: rest) (k : Nat) :
    Host.Core.run Sys2Proof.core (k + 5) s =
      Host.Core.run Sys2Proof.core k ((s.readTaken a o u width arriving).withSchedule rest) := by
  obtain ⟨stands, expects⟩ := readBuilt_frame s a o u width
  have request : isRequest (specReadFrame u width.bytes) = true :=
    buildRead_width_eq_spec u width ▸ isRequest_buildRead u width
  have enough : (s.readBuilt a o u width).expectN.toNat ≤ ((s.readBuilt a o u width).rxq ++ arriving).length := by
    rw [expects]
    exact available
  have builds := step_withSchedule_engine reads (.engine :: .engine :: .arrive arriving :: .engine :: rest)
  rw [State.withSchedule_of_eq hs] at builds
  exact (run_succ_of_next builds (k + 4)).trans
    (run_exchange (s := s.readBuilt a o u width) held idle rfl stands request enough k)

/-- The response that was waited for is fetched, and the surplus stays in `RXQ` (R218). -/
theorem readTaken_whole {s : State} {width : Config.ValueWidth} {response surplus : List Byte} (held : s.lock = true)
    (whole : s.chReadLimit = none) (empty : s.rxq = []) (size : response.length = 2 * width.bytes + 4) (a : Area)
    (o u : UnitAddr) :
    fetch (s.readTaken a o u width (response ++ surplus)) = some (.response response) ∧
      (s.readTaken a o u width (response ++ surplus)).rxq = surplus := by
  obtain ⟨-, expects⟩ := readBuilt_frame s a o u width
  have queue : s.rxq ++ (response ++ surplus) = response ++ surplus := by rw [empty, List.nil_append]
  exact answered_whole (s := s.readBuilt a o u width) held whole queue (expects.trans size.symm) _

/-- The answer that was taken completes the read, with the bit of the offset or the whole value (R158, R187). -/
theorem engineStep_readTaken {s : State} {width : Config.ValueWidth} {bytes surplus : List Byte} {x y : Byte}
    (held : s.lock = true) (whole : s.chReadLimit = none) (empty : s.rxq = []) (size : bytes.length = width.bytes)
    (summed : [x, y] = sumDigits (bytes.flatMap byteDigits ++ [etx])) (a : Area) (o u : UnitAddr) :
    engineStep (s.readTaken a o u width (responseOf (bytes.flatMap byteDigits) x y ++ surplus)) =
      .next ((s.readTaken a o u width (responseOf (bytes.flatMap byteDigits) x y ++ surplus)).completedWith .ok false
        (deliverRead bytes.length s.cmdOp (o.extractLsb' 0 3) (bytesToValue s.config.dataLsbFirst bytes))) := by
  have responseSize : (responseOf (bytes.flatMap byteDigits) x y).length = 2 * width.bytes + 4 :=
    size ▸ responseOf_digits_length bytes x y
  obtain ⟨fetched, -⟩ := readTaken_whole (surplus := surplus) held whole empty responseSize a o u
  obtain ⟨op, -, config, -, bitsel, -⟩ :=
    readTaken_frame s a o u width (responseOf (bytes.flatMap byteDigits) x y ++ surplus)
  rw [engineStep_of_wellFormed (size ▸ width_bytes_mem width) summed fetched, op, bitsel, config]

/-- The bit that `BITSEL` selects is that of the offset modulo 8 (R18). -/
theorem extractLsb'_three_toNat (o : UnitAddr) : (o.extractLsb' 0 3).toNat = o.toNat % 8 := by
  simp

/-- What a read opcode of the table delivers, as a number (R158, R160). -/
theorem readValue_toNat {op : Opcode} {p : Nat × Nat} {bytes : List Byte} (opcode : op.toNat = p.1)
    (size : bytes.length = p.2) (bitReadsOne : p.1 = 0 → p.2 = 1) (short : bytes.length ≤ 4) (lsbFirst : Bool)
    (o : UnitAddr) :
    (deliverRead bytes.length op (o.extractLsb' 0 3) (bytesToValue lsbFirst bytes)).toNat =
      if p.1 = 0 then (wireValue lsbFirst bytes / 2 ^ (o.toNat % 8)) % 2 else wireValue lsbFirst bytes := by
  have deliversBit : bytes.length = 1 ∧ op = 0b0000#4 ↔ p.1 = 0 := by
    rw [← BitVec.toNat_inj, opcode, size]
    exact ⟨And.right, fun bit => ⟨bitReadsOne bit, bit⟩⟩
  simp only [deliverRead_toNat, deliversBit, extractLsb'_three_toNat, bytesToValue_toNat lsbFirst short]

/-- Settles O53: the answer is read in five steps and its value is delivered in the sixth. -/
theorem readCommandRunsToItsValue : Obligations.ReadCommandRunsToItsValue := by
  intro s p a o u bytes surplus rest mem opcode size held idle unbuilt whole empty parsed resolved hs
  obtain ⟨width, hwidth, bitReadsOne, meaning⟩ := exec_decodeCommand_read mem opcode s.latchedAddr s.cmdWdata
  obtain ⟨x, y, summed⟩ : ∃ x y, [x, y] = sumDigits (bytes.flatMap byteDigits ++ [etx]) := ⟨_, _, rfl⟩
  have length : bytes.length = width.bytes := size.trans hwidth.symm
  have responseSize : (responseOf (bytes.flatMap byteDigits) x y).length = 2 * width.bytes + 4 :=
    length ▸ responseOf_digits_length bytes x y
  have available : 2 * width.bytes + 4 ≤ (s.rxq ++ (responseOf (bytes.flatMap byteDigits) x y ++ surplus)).length := by
    rw [← responseSize, empty, List.nil_append, List.length_append]
    exact Nat.le_add_right _ _
  have reads : engineStep s = .next (s.readBuilt a o u width) := by
    rw [engineStep_of_latched held idle unbuilt, meaning, readCommand_of_resolved width parsed resolved]
  have completes := engineStep_readTaken (surplus := surplus) held whole empty length summed a o u
  obtain ⟨-, left⟩ := readTaken_whole (surplus := surplus) held whole empty responseSize a o u
  obtain ⟨-, req, -, records, -, txlog⟩ :=
    readTaken_frame s a o u width (responseOf (bytes.flatMap byteDigits) x y ++ surplus)
  rw [wireResponse_eq_responseOf summed] at hs
  have runs := (run_read held idle reads available hs 1).trans
    (run_succ_of_next (step_withSchedule_engine completes rest) 0)
  refine ⟨_, runs, ?sent, left, ?value, rfl, ?record, rfl, rfl, rfl⟩
  case sent => exact hwidth ▸ txlog
  case value => exact readValue_toNat opcode size bitReadsOne (length ▸ bytes_le_four width) _ o
  case record =>
    rw [← req, ← records]
    rfl

end Sys2Proof.Machine

/-! ## The write commands

The statements O17, O18, O20, O54 and O55. The byte-operation writes are one local phase of a width, and WR_BIT is one
of the bit operation, which leaves `LEN` as it is; so both build their frame by `State.build` and wait for one byte.
From there a whole command is the same chain of steps for every write (`run_write`), whatever its frame is. -/

namespace Sys2Proof.Machine

/-! ### Building the WRITE frame -/

theorem buildWrite_width_eq_spec (u : UnitAddr) (width : Config.ValueWidth) (bytes : List Byte) :
    buildWrite u width.bytes bytes = specWriteFrame u width.bytes bytes :=
  buildWrite_eq_spec u (Nat.lt_of_le_of_lt (bytes_le_four width) (by decide)) bytes

/-- A byte-operation write whose address resolves builds its frame (R170). -/
theorem writeCommand_of_resolved {addr : List Byte} {s : State} {a : Area} {o u : UnitAddr}
    (width : Config.ValueWidth) (wdata : Word) (parsed : parseAddress addr = .ok (a, o))
    (resolved : resolve s.config a o true = .ok u) :
    writeCommand width addr wdata s = .next (s.build a o u width.bytes
      (specWriteFrame u width.bytes (wireBytes s.config.dataLsbFirst wdata width)) 1) := by
  rw [writeCommand_eq_localPhase, localPhase_of_resolved parsed resolved, buildWrite_width_eq_spec]
  rfl

/-- Settles O17: the four commands are `writeCommand` of their widths, whose `wireBytes` are the bytes listed. -/
theorem byteWriteCommandsBuildTheirFrame : Obligations.ByteWriteCommandsBuildTheirFrame := by
  intro addr w s a o u parsed resolved
  have built (width : Config.ValueWidth) := writeCommand_of_resolved width w parsed resolved
  simp only [State.build_eq_builtAs] at built
  simp only [List.forall_mem_cons, List.not_mem_nil, false_imp_iff, implies_true, and_true]
  exact ⟨built .one, built .two, built .four, built .four⟩

/-! ### Building the SET or RESET frame -/

/-- WR_BIT whose address resolves builds its frame, and `LEN` stays (R171, R17). -/
theorem execWrBit_of_resolved {addr : List Byte} {s : State} {a : Area} {o u : UnitAddr} (wdata : Word)
    (parsed : parseAddress addr = .ok (a, o)) (resolved : resolve s.config a o false = .ok u) :
    execWrBit addr wdata s = .next (s.build a o u s.len.toNat (specBitFrame u (wdata.getLsbD 0)) 1) := by
  rw [execWrBit_eq_commandPhase, commandPhase, localPhase_of_resolved parsed resolved, buildBit_eq_spec]

/-- A build that sets `LEN` to what it holds is one without `LEN`. -/
theorem State.build_len_same (s : State) (a : Area) (o u : UnitAddr) (frame : List Byte) (expect : Nat) :
    s.build a o u s.len.toNat frame expect = (s.parsedAs a o).builtAs u frame expect :=
  congrArg (State.setFrame · frame expect) (State.setLen_same ((s.setParsed a o).setUaddr u))

/-- Settles O18: bit 0 of the value is its remainder modulo 2. -/
theorem bitWriteBuildsSetOrReset : Obligations.BitWriteBuildsSetOrReset := by
  intro addr w s a o u parsed resolved
  have lowBit : w.getLsbD 0 = (w.toNat % 2 == 1) := by
    rw [BitVec.getLsbD, Nat.testBit_zero]
    rfl
  rw [← lowBit, ← State.build_len_same]
  exact execWrBit_of_resolved w parsed resolved

/-! ### The local faults of WR_BIT -/

/-- Where a unit address of area Y leaves the 16 bits, for either base (R104, R107). -/
theorem yBit_overflows {st : Straps} {n : Nat} (large : 65536 ≤ n + yBitBase st) :
    (st.yBase0400 = false ∧ 64256 ≤ n) ∨ (st.yBase0400 = true ∧ 64512 ≤ n) := by
  obtain ⟨base, hy⟩ | ⟨base, hy⟩ := yBitBase_cases st <;> rw [hy] at large
  · exact .inl ⟨base, by omega⟩
  · exact .inr ⟨base, by omega⟩

/-- Settles O20: the local phase ends in the parser, or in the resolver, whose two faults are those of O14. -/
theorem bitWriteLocalFaults : Obligations.BitWriteLocalFaults := by
  intro addr w s
  have phase : exec (.wrBit addr w) s = execWrBit addr w s := rfl
  rw [phase, execWrBit_eq_localPhase]
  refine ⟨fun e unparsed => ?_, fun a o parsed => ?_⟩
  · rw [localPhase_of_unparsed unparsed, parseAddress_error unparsed]
    rfl
  · obtain ⟨-, unsupported, invalid⟩ := bitOperationAddresses s.config a o
    refine ⟨fun noFormula => localPhase_of_unresolved parsed (unsupported.mpr noFormula), fun large => ?_⟩
    refine localPhase_of_unresolved parsed (invalid.mpr ?_)
    obtain largeM | ⟨areaY, largeY⟩ | largeT := large
    · exact .inl largeM
    · obtain low | high := yBit_overflows largeY
      · exact .inr (.inl ⟨areaY, low⟩)
      · exact .inr (.inr (.inl ⟨areaY, high⟩))
    · exact .inr (.inr (.inr largeT))

/-! ### A whole write command -/

/-- The WRITE frame of a value is a request that fits `TXBUF` (R20, R69). -/
theorem specWriteFrame_fits (st : Straps) (u : UnitAddr) (width : Config.ValueWidth) (wdata : Word) :
    isRequest (specWriteFrame u width.bytes (wireBytes st.dataLsbFirst wdata width)) = true ∧
      (specWriteFrame u width.bytes (wireBytes st.dataLsbFirst wdata width)).length ≤ 19 := by
  rw [← buildWrite_width_eq_spec]
  exact buildsRequests_write width wdata st u

/-- The SET or RESET frame is a request that fits `TXBUF` (R20, R70). -/
theorem specBitFrame_fits (u : UnitAddr) (set : Bool) :
    isRequest (specBitFrame u set) = true ∧ (specBitFrame u set).length ≤ 19 := by
  rw [← buildBit_eq_spec, buildBit_length]
  exact ⟨isRequest_buildBit u set, by decide⟩

/-- One byte in `RXBUF` is the acknowledgement, whatever it is (R71, R151). -/
theorem engineStep_of_acknowledgement {s : State} {k : Byte} (fetched : fetch s = some (.response [k])) :
    engineStep s = .next (s.completedWith .ok (decide (k = 0x06#8)) s.rdata) :=
  engineStep_of_decode_ok (i := .ack k) fetched rfl

/-- `s` after a write's `frame` was built and sent, and one byte read out of what lay in `RXQ` and what arrived before
the first poll. -/
def State.writeTaken (s : State) (a : Area) (o u : UnitAddr) (n : Nat) (frame arriving : List Byte) : State :=
  ((s.build a o u n frame 1).answered frame arriving).takeResponse

/-- What the completing step will look at: the latch, the records and the result are still those of the accepted
command, and the channel was given its frame (R131). -/
theorem writeTaken_frame (s : State) (a : Area) (o u : UnitAddr) (n : Nat) (frame arriving : List Byte) :
    (s.writeTaken a o u n frame arriving).cmdReq = s.cmdReq ∧
      (s.writeTaken a o u n frame arriving).records = s.records ∧
      (s.writeTaken a o u n frame arriving).rdata = s.rdata ∧
      (s.writeTaken a o u n frame arriving).txlog = s.txlog ++ frame := by
  simp [State.writeTaken, State.answered, State.build]

/-- From the latched write command to its completion: six steps, when its local phase builds a request frame that fits
`TXBUF` and a byte is there before the first poll (R170, R131 to R134, R151, R187, R217). -/
theorem run_write {s : State} {a : Area} {o u : UnitAddr} {n : Nat} {frame arriving left : List Byte} {k : Byte}
    {rest : List Move} (held : s.lock = true) (idle : s.tstate = .idle) (whole : s.chReadLimit = none)
    (writes : engineStep s = .next (s.build a o u n frame 1))
    (fits : isRequest frame = true ∧ frame.length ≤ 19) (queue : s.rxq ++ arriving = k :: left)
    (hs : s.schedule = .engine :: .engine :: .engine :: .arrive arriving :: .engine :: .engine :: rest) :
    ∃ t : State, Host.Core.run Sys2Proof.core 6 s = .next t ∧ t.txlog = s.txlog ++ frame ∧ t.rxq = left ∧
      t.rdata = s.rdata ∧
      t.status = { busy := false, done := true, ackOk := decide (k = 0x06#8), err := .ok } ∧
      t.records = s.records ++ [{ req := s.cmdReq, err := .ok, ackOk := decide (k = 0x06#8), rdata := s.rdata }] ∧
      t.lock = false ∧ t.tstate = .idle ∧ t.schedule = rest := by
  obtain ⟨request, short⟩ := fits
  have stands : (s.build a o u n frame 1).txBuf.take (s.build a o u n frame 1).txLen.toNat = frame :=
    txBuf_setFrame 1 (Nat.lt_of_le_of_lt short (by decide))
  have available : 1 ≤ (s.rxq ++ arriving).length := by simp [queue]
  obtain ⟨fetched, surplus⟩ :=
    answered_whole (s := s.build a o u n frame 1) (response := [k]) held whole queue rfl frame
  obtain ⟨req, records, rdata, txlog⟩ := writeTaken_frame s a o u n frame arriving
  have builds := step_withSchedule_engine writes (.engine :: .engine :: .arrive arriving :: .engine :: .engine :: rest)
  rw [State.withSchedule_of_eq hs] at builds
  have exchanges := run_exchange (s := s.build a o u n frame 1) (rest := .engine :: rest) held idle rfl stands request
    available 1
  have completes := step_withSchedule_engine (engineStep_of_acknowledgement fetched) rest
  have runs := (run_succ_of_next builds 5).trans (exchanges.trans (run_succ_of_next completes 0))
  refine ⟨_, runs, txlog, surplus, rdata, rfl, ?record, rfl, rfl, rfl⟩
  case record =>
    rw [← req, ← records, ← rdata]
    rfl

/-- The four byte-operation write opcodes and their widths (R172 to R175). -/
theorem exec_decodeCommand_write {op : Opcode} {p : Nat × Config.ValueWidth}
    (mem : p ∈ [(9, .one), (10, .two), (11, .four), (12, .four)]) (opcode : op.toNat = p.1) (addr : List Byte)
    (wdata : Word) : exec (decodeCommand op addr wdata) = writeCommand p.2 addr wdata := by
  simp only [List.mem_cons, List.not_mem_nil, or_false] at mem
  obtain rfl | rfl | rfl | rfl := mem
  all_goals
    rw [decodeCommand, opcode]
    rfl

/-- Settles O54: `run_write` for the WRITE frame. -/
theorem writeCommandRunsToItsAcknowledgement : Obligations.WriteCommandRunsToItsAcknowledgement := by
  intro s p a o u arriving left k rest mem opcode held idle unbuilt whole queue parsed resolved hs
  have writes : engineStep s = .next (s.build a o u p.2.bytes
      (specWriteFrame u p.2.bytes (wireBytes s.config.dataLsbFirst s.cmdWdata p.2)) 1) := by
    rw [engineStep_of_latched held idle unbuilt, exec_decodeCommand_write mem opcode,
      writeCommand_of_resolved p.2 s.cmdWdata parsed resolved]
  exact run_write held idle whole writes (specWriteFrame_fits s.config u p.2 s.cmdWdata) queue hs

/-- Settles O55: `run_write` for the SET or RESET frame. -/
theorem bitWriteRunsToItsAcknowledgement : Obligations.BitWriteRunsToItsAcknowledgement := by
  intro s a o u arriving left k rest opcode held idle unbuilt whole queue parsed resolved hs
  have meaning : exec (decodeCommand s.cmdOp s.latchedAddr s.cmdWdata) s = execWrBit s.latchedAddr s.cmdWdata s := by
    rw [opcode]
    rfl
  have writes : engineStep s =
      .next (s.build a o u s.len.toNat (specBitFrame u (s.cmdWdata.getLsbD 0)) 1) := by
    rw [engineStep_of_latched held idle unbuilt, meaning, execWrBit_of_resolved s.cmdWdata parsed resolved]
  exact run_write held idle whole writes (specBitFrame_fits u _) queue hs

end Sys2Proof.Machine

/-! ## No step stops; the clock; which commands end with which fault

The statements O22, O42, O43 and O46. O42 rests on `engineStep_next` and `environmentMove_next`, one for each maker of a
step. O22 and O43 are about the status in the record that a step emits, so the first lemmas for them say which status
each way to complete a command can put there; O43 also follows the channel's contract through every move. -/

namespace Sys2Proof.Machine

/-! ### A step answers a next state -/

/-- Under the invariant what the engine finds in `TXBUF` is a request frame, so it never meets bytes it stops on. -/
theorem engineStep_next {s : State} (inv : s.Inv) : ∃ t, engineStep s = .next t := by
  obtain ⟨-, hs⟩ | ⟨code, i, -, -, hs⟩ | ⟨code, e, hf, hd, hs⟩ := engineStep_cases s
  · exact ⟨_, hs⟩
  · rw [hs]
    exact exec_next i s
  · rw [hs]
    obtain ⟨-, ⟨-, built, rfl⟩ | ⟨-, -, rfl⟩ | ⟨-, -, rfl⟩⟩ := fetch_cases hf
    · obtain ⟨-, request⟩ := inv.frameBuilt built
      obtain ⟨i, decodes⟩ := isRequest_iff.mp request
      cases decodes.symm.trans hd
    · exact ⟨_, rfl⟩
    · exact ⟨_, rfl⟩

/-- The environment's moves are refused only where a submission does not fit or its requester is blocked (R12, R201). -/
theorem environmentMove_next {m : Move} {s : State}
    (allowed : ∀ place c, m = .submit place c → c.wellFormed = true ∧ s.blocked c.req = false) :
    ∃ t, environmentMove m s = .next t := by
  obtain ⟨_, _, -, -, -, he⟩ | ⟨place, c, hm, stopped, -⟩ | ⟨-, he⟩ | ⟨_, -, he⟩ | ⟨_, -, he⟩ | ⟨_, -, he⟩ |
    ⟨_, -, he⟩ | ⟨_, -, he⟩ | ⟨_, -, he⟩ | ⟨-, he⟩ := environmentMove_cases m s
  case inr.inl =>
    obtain ⟨fits, unblocked⟩ := allowed place c hm
    exact absurd stopped (by simp [fits, unblocked])
  all_goals exact ⟨_, he⟩

/-- The premises of R216 (g) are what the next move needs to be taken. -/
theorem step_next {s : State} (inv : s.Inv) (fit : s.submitsFit) (waits : s.submitterWaits) :
    ∃ t, step s = .next t := by
  obtain ⟨-, he⟩ | ⟨rest, -, he⟩ | ⟨m, rest, -, hs, he⟩ := step_cases s <;> rw [he]
  · exact engineStep_next inv
  · exact engineStep_next (inv.withSchedule rest)
  · refine environmentMove_next fun place c hm => ?_
    subst hm
    exact ⟨fit place c (by simp [hs]), blocked_eq_false_iff.mpr (waits place c rest hs)⟩

/-- No move of the environment, reset included, writes the schedule or emits a record (R211). -/
theorem environmentMove_schedule_records_kept {m : Move} {s t : State} (h : environmentMove m s = .next t) :
    t.schedule = s.schedule ∧ t.records = s.records := by
  by_cases hm : m = .reset
  · subst hm
    cases h
    exact ⟨rfl, rfl⟩
  · have frame := environmentMove_frame hm h
    exact ⟨(congrArg State.schedule frame :), (congrArg State.records frame :)⟩

/-- A step takes its own move off the schedule. -/
theorem step_schedule {s t : State} (h : step s = .next t) : t.schedule = s.schedule.tail := by
  obtain ⟨m, -, he⟩ | he := step_next_engineStep h
  · exact (environmentMove_schedule_records_kept he).1
  · exact engineStep_scheduleBlind.schedule_kept he

/-- The moves to come after a step are among those before it. -/
theorem mem_schedule_of_step {s t : State} (h : step s = .next t) {m : Move} (later : m ∈ t.schedule) :
    m ∈ s.schedule :=
  List.mem_of_mem_tail (step_schedule h ▸ later)

/-- Settles O42: the step answers, it keeps the invariant, and the moves to come were to come before. -/
theorem noStepStops : Obligations.NoStepStops := by
  intro s inv fit waits
  obtain ⟨t, h⟩ := step_next inv fit waits
  exact ⟨t, h, everyStepKeepsTheInvariant s t inv h, fun place c later => fit place c (mem_schedule_of_step h later)⟩

/-! ### The clock -/

theorem EngineMove.clock_kept {s t : State} (h : EngineMove s t) : t.clock = s.clock := by
  cases h <;> rfl

/-- Of the environment's moves the clock's own alone moves the clock (R192, R212). -/
theorem environmentMove_clock_kept {m : Move} {s t : State} (h : environmentMove m s = .next t)
    (noTick : ∀ d, m ≠ .tick d) : t.clock = s.clock := by
  obtain ⟨_, _, -, -, -, he⟩ | ⟨_, _, -, -, _, he⟩ | ⟨-, he⟩ | ⟨d, hm, -⟩ | ⟨_, -, he⟩ | ⟨_, -, he⟩ |
    ⟨_, -, he⟩ | ⟨_, -, he⟩ | ⟨_, -, he⟩ | ⟨-, he⟩ := environmentMove_cases m s
  case inr.inr.inr.inl => exact absurd hm (noTick d)
  all_goals
    rw [he] at h
    cases h
  all_goals rfl

theorem step_clock_of_tick {s t : State} (h : step s = .next t) {d : Nat} {rest : List Move}
    (hs : s.schedule = .tick d :: rest) : t.clock = s.clock + d := by
  rw [step_of_schedule_environment (m := .tick d) nofun hs] at h
  cases h
  rfl

theorem step_clock_kept {s t : State} (h : step s = .next t) (noTick : ∀ d, s.schedule.head? ≠ some (.tick d)) :
    t.clock = s.clock := by
  obtain ⟨m, hm, he⟩ | move := step_next_cases h
  · exact (environmentMove_clock_kept he fun d tick => noTick d (tick ▸ hm) :)
  · exact move.clock_kept

/-- Settles O46: a step is a tick, which adds to the clock, or keeps it. -/
theorem clockIsMonotonic : Obligations.ClockIsMonotonic := by
  intro s t h
  refine ⟨fun d rest hs => step_clock_of_tick h hs, step_clock_kept h, ?_⟩
  by_cases ticks : ∃ d, s.schedule.head? = some (.tick d)
  · obtain ⟨d, first⟩ := ticks
    obtain ⟨rest, hs⟩ := List.head?_eq_some_iff.mp first
    exact (Nat.le_add_right s.clock d).trans_eq (step_clock_of_tick h hs).symm
  · exact (step_clock_kept h (not_exists.mp ticks)).ge

/-! ### The status in an emitted record -/

theorem records_ne_of_kept {s t : State} (kept : t.records = s.records) (r : Completion) :
    t.records ≠ s.records ++ [r] := by
  simp [kept]

theorem err_of_finish {s : State} {err : Err} {ackOk : Bool} {rdata : Word} {r : Completion}
    (emits : (s.finish err ackOk rdata).records = s.records ++ [r]) : r.err = err := by
  obtain rfl : _ = r := by simpa using emits
  rfl

/-- `Resolve` fails as `InvalidAddress`, or, for a bit operation alone, as `UnsupportedOperation` (R95, R182). -/
theorem resolve_error {st : Straps} {a : Area} {o : UnitAddr} {byteOperation : Bool} {e : Err}
    (h : resolve st a o byteOperation = .error e) :
    e = .invalidAddress ∨ (byteOperation = false ∧ e = .unsupportedOperation) := by
  cases byteOperation with
  | true => exact .inl (resolve_byte_error h)
  | false =>
    cases formula : bitFormula st a o.toNat with
    | none =>
      cases (resolve_bit_of_none formula).symm.trans h
      exact .inr ⟨rfl, rfl⟩
    | some n => exact .inl (checkRange_eq_error.mp ((resolve_bit_of_some formula).symm.trans h)).2

/-- The faults of a local phase are those of its address (R188). -/
theorem localPhase_err {byteOperation : Bool} {build : Area → UnitAddr → UnitAddr → State → State} {addr : List Byte}
    {s t : State} {r : Completion} (quiet : ∀ a o u, (build a o u s).records = s.records)
    (h : localPhase byteOperation build addr s = .next t) (emits : t.records = s.records ++ [r]) :
    r.err = .invalidAddress ∨ (byteOperation = false ∧ r.err = .unsupportedOperation) := by
  cases parsed : parseAddress addr with
  | error e =>
    cases (localPhase_of_unparsed parsed).symm.trans h
    exact .inl ((err_of_finish emits).trans (parseAddress_error parsed))
  | ok place =>
    obtain ⟨a, o⟩ := place
    cases resolved : resolve s.config a o byteOperation with
    | error e =>
      cases (localPhase_of_unresolved parsed resolved).symm.trans h
      rw [err_of_finish (s := s.setParsed a o) emits]
      exact resolve_error resolved
    | ok u =>
      cases (localPhase_of_resolved parsed resolved).symm.trans h
      exact absurd emits (records_ne_of_kept (quiet a o u) r)

theorem readCommand_err {n : Config.ValueWidth} {addr : List Byte} {s t : State} {r : Completion}
    (h : readCommand n addr s = .next t) (emits : t.records = s.records ++ [r]) : r.err = .invalidAddress := by
  rw [readCommand_eq_localPhase] at h
  simpa using localPhase_err (fun _ _ _ => rfl) h emits

theorem writeCommand_err {n : Config.ValueWidth} {addr : List Byte} {wdata : Word} {s t : State} {r : Completion}
    (h : writeCommand n addr wdata s = .next t) (emits : t.records = s.records ++ [r]) : r.err = .invalidAddress := by
  rw [writeCommand_eq_localPhase] at h
  simpa using localPhase_err (fun _ _ _ => rfl) h emits

theorem readResponse_err {n : Nat} {rx : List Byte} {deliver : Word → Word} {s t : State} {r : Completion}
    (h : readResponse n rx deliver s = .next t) (emits : t.records = s.records ++ [r]) :
    r.err = .invalidFrame ∨ r.err = .ok := by
  obtain ⟨-, hr⟩ | ⟨v, -, hr⟩ := readResponse_cases n rx deliver s <;> cases hr.symm.trans h
  · exact .inl (err_of_finish emits)
  · exact .inr (err_of_finish emits)

/-- Settles O22: every other instruction emits no record, or one with another status. -/
theorem onlyBitWritesAndReservedAreUnsupported : Obligations.OnlyBitWritesAndReservedAreUnsupported := by
  intro i s t r h emits unsupported
  cases i with
  | wrBit addr wdata => exact .inl ⟨addr, wdata, rfl⟩
  | reserved0101 | reserved0110 | reserved0111 | reserved1101 | reserved1110 | reserved1111 => exact .inr (by simp)
  | rdBit | rdByte | rdU16 | rdU32 | rdF32 => exact nomatch unsupported.symm.trans (readCommand_err h emits)
  | wrByte | wrU16 | wrU32 | wrF32 => exact nomatch unsupported.symm.trans (writeCommand_err h emits)
  | read1 | read2 | read4 | write1 | write2 | write4 | setBit | resetBit =>
    cases h
    exact absurd emits (records_ne_of_kept rfl r)
  | ack =>
    cases h
    exact nomatch unsupported.symm.trans (err_of_finish emits)
  | rdresp1 | rdresp2 | rdresp4 => exact absurd (readResponse_err h emits) (by simp [unsupported])

/-! ### `InvalidFrame` on a channel that keeps its contract -/

/-- The local faults of a command are about its address or its opcode, never about a frame (R188). -/
theorem exec_decodeCommand_not_invalidFrame {op : Opcode} {addr : List Byte} {wdata : Word} {s t : State}
    {r : Completion} (h : exec (decodeCommand op addr wdata) s = .next t) (emits : t.records = s.records ++ [r]) :
    r.err ≠ .invalidFrame := by
  obtain reserved | ⟨_, _, _, _, -, -, phase⟩ := exec_decodeCommand op addr wdata
  · rw [reserved] at h
    cases h
    simp [err_of_finish emits]
  · rw [phase] at h
    obtain invalid | ⟨-, unsupported⟩ := localPhase_err (fun _ _ _ => rfl) h emits
    · simp [invalid]
    · simp [unsupported]

/-- A write command waits for one byte (R19). -/
theorem expectOf_of_write {op : Opcode} {n : Nat} (write : 8 ≤ op.toNat) (h : expectOf op = some n) : n = 1 := by
  unfold expectOf at h
  split at h <;> cases h <;> omega

/-- A write whose response was read whole completes with `OK`, whatever byte it is (R151, R170). -/
theorem engineStep_of_write_answered {s : State} (inv : s.Inv) (held : s.lock = true) (complete : s.tstate = .complete)
    (whole : s.rxGot = s.expectN.toNat) (write : 8 ≤ s.cmdOp.toNat) :
    ∃ ackOk, engineStep s = .next (s.finish .ok ackOk s.rdata) := by
  have one : s.expectN.toNat = 1 := expectOf_of_write write (inv.expectsItsOpcode (.inr (by simp [complete])))
  obtain ⟨k, first⟩ : ∃ k, s.rxBuf.take 1 = [k] := List.length_eq_one_iff.mp (by simp [inv.rxSize])
  have fetched : fetch s = some (.response [k]) := by simp [fetch, held, complete, whole, one, first]
  exact ⟨_, engineStep_of_acknowledgement fetched⟩

/-- Of the engine's steps that emit a record, only one for a read command can say `InvalidFrame` (R183). -/
theorem engineStep_invalidFrame_of_read {s t : State} {r : Completion} (inv : s.Inv)
    (whole : s.tstate = .complete → s.rxGot = s.expectN.toNat) (h : engineStep s = .next t)
    (emits : t.records = s.records ++ [r]) (malformed : r.err = .invalidFrame) : s.cmdOp.toNat < 8 := by
  cases EngineMove.of_engineStep h with
  | stays | accepts | builds | sends | recordsDeadline | takesResponse | givesUp | startsWait =>
    exact absurd emits (records_ne_of_kept rfl r)
  | refuses held idle unbuilt | refusesParsed held idle unbuilt =>
    rw [engineStep_of_latched held idle unbuilt] at h
    exact absurd malformed (exec_decodeCommand_not_invalidFrame h emits)
  | completes held ended =>
    obtain complete | timedOut := ended
    · by_contra write
      obtain ⟨ackOk, answers⟩ := engineStep_of_write_answered inv held complete (whole complete) (by omega)
      rw [Host.Outcome.next.inj (h.symm.trans answers)] at emits
      exact nomatch malformed.symm.trans (err_of_finish emits)
    · rw [Host.Outcome.next.inj (h.symm.trans (engineStep_of_timedOut held timedOut))] at emits
      exact nomatch malformed.symm.trans (err_of_finish emits)

/-- What `State.readsWhole` says of the present state, apart from the moves to come. -/
def State.readsWholeNow (s : State) : Prop :=
  s.chReadLimit = none ∧ (s.tstate = .complete → s.rxGot = s.expectN.toNat)

theorem readsWhole_iff {s : State} :
    s.readsWhole ↔ s.readsWholeNow ∧ ∀ k, Move.shortRead k ∉ s.schedule :=
  and_right_comm

/-- Only a poll that finds all the bytes reads them (R133, R134). -/
theorem available_of_await_complete {s : State} (awaiting : s.tstate = .awaitingLength)
    (complete : s.await.tstate = .complete) : s.expectN.toNat ≤ s.rxq.length := by
  obtain ⟨d, -, -, h⟩ | ⟨-, ⟨available, -⟩ | ⟨-, -, h⟩ | ⟨-, -, h⟩⟩ := await_cases s
  case inr.inl => exact available
  all_goals
    rw [h] at complete
    simp [awaiting] at complete

/-- The engine keeps the contract of the channel, and what it reads of a response is all that it waited for (R199). -/
theorem engineStep_readsWholeNow {s t : State} (h : engineStep s = .next t) (reads : s.readsWholeNow) :
    t.readsWholeNow := by
  obtain ⟨contract, whole⟩ := reads
  cases EngineMove.of_engineStep h with
  | stays | accepts | startsWait => exact ⟨contract, whole⟩
  | builds _ idle => exact ⟨contract, fun complete => nomatch idle.symm.trans complete⟩
  | refuses | refusesParsed | sends | recordsDeadline | givesUp | completes => exact ⟨contract, nofun⟩
  | takesResponse held awaiting =>
    have polled : s.await = s.takeResponse :=
      Host.Outcome.next.inj ((engineStep_of_awaiting held awaiting).symm.trans h)
    have available := available_of_await_complete awaiting (by rw [polled]; rfl)
    rw [takeResponse_eq (chReadCount_eq _ contract) available]
    exact ⟨rfl, fun _ => rfl⟩

/-- So does every move of the environment but the short read (R141). -/
theorem environmentMove_readsWholeNow {m : Move} {s t : State} (h : environmentMove m s = .next t)
    (noShort : ∀ k, m ≠ .shortRead k) (reads : s.readsWholeNow) : t.readsWholeNow := by
  obtain ⟨contract, whole⟩ := reads
  obtain ⟨_, _, -, -, -, he⟩ | ⟨_, _, -, -, _, he⟩ | ⟨-, he⟩ | ⟨_, -, he⟩ | ⟨_, -, he⟩ | ⟨_, -, he⟩ |
    ⟨_, -, he⟩ | ⟨_, -, he⟩ | ⟨k, hm, -⟩ | ⟨-, he⟩ := environmentMove_cases m s
  case inr.inr.inr.inr.inr.inr.inr.inr.inl => exact absurd hm (noShort k)
  all_goals
    rw [he] at h
    cases h
  case inr.inr.inr.inr.inr.inr.inr.inr.inr => exact ⟨contract, nofun⟩
  all_goals exact ⟨contract, whole⟩

theorem step_readsWhole {s t : State} (h : step s = .next t) (reads : s.readsWhole) : t.readsWhole := by
  obtain ⟨now, noShort⟩ := readsWhole_iff.mp reads
  refine readsWhole_iff.mpr ⟨?_, fun k later => noShort k (mem_schedule_of_step h later)⟩
  obtain ⟨m, hm, he⟩ | he := step_next_engineStep h
  · exact environmentMove_readsWholeNow he (fun k short => noShort k (short ▸ List.mem_of_mem_head? hm)) now
  · exact engineStep_readsWholeNow he now

/-- Settles O43: the environment emits no record, and the engine's step says `InvalidFrame` of read commands only. -/
theorem onlyReadsAreMalformed : Obligations.OnlyReadsAreMalformed := by
  intro s t inv reads h
  have whole := reads.2
  refine ⟨step_readsWhole h reads, fun r emits malformed => ?_⟩
  obtain ⟨m, -, he⟩ | he := step_next_engineStep h
  · exact absurd emits (records_ne_of_kept (environmentMove_schedule_records_kept he).2 r)
  · exact engineStep_invalidFrame_of_read (s := s.withSchedule s.schedule.tail) (inv.withSchedule _) whole he emits
      malformed

end Sys2Proof.Machine

/-! ## Reset, the stalled clock and the receive queue

The statements O35, O37 and O49. O35 is a predicate that one step keeps, `State.Stalled`, and the induction over the run.
O49 looks at each maker of a step: the environment takes nothing from `RXQ`, and of the engine's moves the read of the
response alone does. -/

namespace Sys2Proof.Machine

/-! ### Reset in a running system -/

/-- Settles O37: the registers hold the values of the reset state, and `State.engineReset` copies the rest. -/
theorem resetLeavesTheEnvironment : Obligations.ResetLeavesTheEnvironment := by
  intro s rest
  obtain ⟨lock, tstate, status, rdata, timeout, pollInterval, -⟩ := resetValuesOfTheSpec
  exact ⟨_, step_environment_cons s .reset nofun rest, lock, tstate, status, rdata, timeout, pollInterval,
    rfl, rfl, rfl, rfl, rfl, rfl, rfl, rfl⟩

/-! ### A stalled clock -/

/-- A transaction that waits for bytes with nothing to come but the engine's own steps: no byte arrives, and the clock
stands at the deadline or before it (R227). -/
structure State.Stalled (s : State) : Prop where
  quiet : s.schedule = []
  held : s.lock = true
  awaiting : s.tstate = .awaitingLength
  few : s.rxq.length < s.expectN.toNat
  inTime : s.clock ≤ s.deadline

theorem State.Stalled.startWait {s : State} (h : s.Stalled) : s.startWait.Stalled := { h with }

/-- A stalled engine waits on, or polls in vain and starts the next wait (R133, R136). -/
theorem State.Stalled.step {s : State} (h : s.Stalled) : step s = .next s ∨ step s = .next s.startWait := by
  rw [step_of_schedule_nil h.quiet, engineStep_of_awaiting h.held h.awaiting]
  obtain ⟨d, -, -, waits⟩ | ⟨-, ⟨available, -⟩ | ⟨-, late, -⟩ | ⟨-, -, polls⟩⟩ := await_cases s
  · exact .inl (congrArg _ waits)
  · exact absurd available (Nat.not_le.mpr h.few)
  · exact absurd late (Nat.not_lt.mpr h.inTime)
  · exact .inr (congrArg _ polls)

theorem State.Stalled.run {s : State} (h : s.Stalled) (k : Nat) :
    ∃ t : State, Host.Core.run Sys2Proof.core k s = .next t ∧ t.Stalled ∧
      t.rxq = s.rxq ∧ t.txlog = s.txlog ∧ t.records = s.records := by
  induction k generalizing s with
  | zero => exact ⟨s, rfl, h, rfl, rfl, rfl⟩
  | succ k ih =>
    obtain waits | polls := h.step
    · rw [run_succ_of_next waits]
      exact ih h
    · rw [run_succ_of_next polls]
      exact ih h.startWait

/-- Settles O35: a stalled transaction stays stalled. -/
theorem stalledClockNeverReleases : Obligations.StalledClockNeverReleases := by
  intro s k quiet held awaiting few inTime
  obtain ⟨t, runs, stalled, same⟩ := State.Stalled.run ⟨quiet, held, awaiting, few, inTime⟩ k
  exact ⟨t, runs, stalled.awaiting, stalled.held, same⟩

/-! ### The receive queue -/

/-- Of the environment's moves the controller's arrivals alone write `RXQ`; reset keeps it (R30, R198, R219). -/
theorem environmentMove_rxq_kept {m : Move} {s t : State} (h : environmentMove m s = .next t)
    (noArrival : ∀ bytes, m ≠ .arrive bytes) : t.rxq = s.rxq := by
  obtain ⟨_, _, -, -, -, he⟩ | ⟨_, _, -, -, _, he⟩ | ⟨-, he⟩ | ⟨_, -, he⟩ | ⟨bytes, hm, -⟩ | ⟨_, -, he⟩ |
    ⟨_, -, he⟩ | ⟨_, -, he⟩ | ⟨_, -, he⟩ | ⟨-, he⟩ := environmentMove_cases m s
  case inr.inr.inr.inr.inl => exact absurd hm (noArrival bytes)
  all_goals
    rw [he] at h
    cases h
  all_goals rfl

/-- The environment moves `TSTATE` by reset alone (R210). -/
theorem environmentMove_tstate {m : Move} {s t : State} (h : environmentMove m s = .next t) :
    t.tstate = s.tstate ∨ t.tstate = .idle := by
  by_cases hm : m = .reset
  · subst hm
    cases h
    exact .inr rfl
  · exact .inl (congrArg State.tstate (environmentMove_frame hm h) :)

/-- The step goes from `AwaitingLength` to `Complete` (R134). -/
def ReadsChannel (s t : State) : Prop := s.tstate = .awaitingLength ∧ t.tstate = .complete

/-- A step that keeps `TSTATE` or leaves a transaction idle reads nothing. -/
theorem not_readsChannel {s t : State} (h : t.tstate = s.tstate ∨ t.tstate = .idle) : ¬ ReadsChannel s t := by
  rintro ⟨awaiting, complete⟩
  simp [awaiting, complete] at h

/-- The engine touches `RXQ` only where it reads the response, of which enough bytes are there (R134, R199, R219). -/
theorem engineStep_rxq {s t : State} (h : engineStep s = .next t) :
    (t.rxq = s.rxq ∧ ¬ ReadsChannel s t) ∨
    (s.lock = true ∧ s.tstate = .awaitingLength ∧ s.expectN.toNat ≤ s.rxq.length ∧ t = s.takeResponse) := by
  cases EngineMove.of_engineStep h with
  | stays | accepts | startsWait => exact .inl ⟨rfl, not_readsChannel (.inl rfl)⟩
  | refuses | refusesParsed | completes => exact .inl ⟨rfl, not_readsChannel (.inr rfl)⟩
  | builds => exact .inl ⟨rfl, not_readsChannel (.inl rfl)⟩
  | sends | recordsDeadline | givesUp => exact .inl ⟨rfl, fun ⟨_, complete⟩ => nomatch complete⟩
  | takesResponse held awaiting =>
    have polled : s.await = s.takeResponse :=
      Host.Outcome.next.inj ((engineStep_of_awaiting held awaiting).symm.trans h)
    exact .inr ⟨held, awaiting, available_of_await_complete awaiting (by rw [polled]; rfl), rfl⟩

/-- Settles O49: arrivals are one move of the environment, and of the others the engine's read alone writes `RXQ`. -/
theorem receiveQueueIsNeverFlushed : Obligations.ReceiveQueueIsNeverFlushed := by
  intro s t h
  refine ⟨fun bytes rest hs => ?_, fun noArrival => ?_⟩
  · rw [step_of_schedule_environment (m := .arrive bytes) nofun hs] at h
    cases h
    rfl
  · obtain ⟨m, hm, he⟩ | he := step_next_engineStep h
    · exact .inl ⟨(environmentMove_rxq_kept he fun bytes arrival => noArrival bytes (arrival ▸ hm) :),
        not_readsChannel (environmentMove_tstate he :)⟩
    · obtain kept | ⟨held, awaiting, available, rfl⟩ := engineStep_rxq he
      · exact .inl kept
      · exact .inr ⟨held, awaiting, available, rfl, rfl⟩

end Sys2Proof.Machine
